-- ==== Sys2Proof/Word.lean ====
section
/-! DEFINITION. Word.lean: the two widths of the hardware (00_scope.md R6, R7). -/

namespace Sys2Proof

/-- A byte, 8 bits (R7). -/
abbrev Byte := BitVec 8

/-- A 16-bit word: a register pair, SP, PC or an address (R6, R7). -/
abbrev Word := BitVec 16

end Sys2Proof
end

