-- ==== Sys2Proof/Config.lean ====
section
/-! DEFINITION. Config.lean: the sizes 00_scope.md R6 fixes, what a byte that nothing has written reads as, and the
free values (00_scope.md R12; log entries 3, 5 and 12). The launch PARAMETERS of R6 are no constants of this file: they
are data in the state (Machine/State.lean, `Launch`), so that every statement holds for every setting of them. -/

namespace Sys2Proof.Config

/-- What a byte of a store that nothing has written reads as. DESIGN CHOICE, unsafe (log entry 3): the spec draws it
(70_reset_and_hazards.md R355). -/
def unlistedByte : Byte := 0x00#8

/-- BOOT_ROM's size in bytes (R6). -/
def bootRomSize : Nat := 0x100
/-- VRAM's size in bytes (R6). -/
def vramSize : Nat := 0x2000
/-- Work RAM's size in bytes (R6). -/
def wramSize : Nat := 0x2000
/-- OAM's size in bytes (R6). -/
def oamSize : Nat := 0xA0
/-- High RAM's size in bytes (R6). -/
def hramSize : Nat := 0x7F
/-- The least ROM_SIZE a launch admits (R6, 70_reset_and_hazards.md R358). -/
def minRomSize : Nat := 0x14D
/-- The greatest ROM_SIZE a launch admits (R6, 70_reset_and_hazards.md R358). -/
def maxRomSize : Nat := 0x10000
/-- The ROM_SIZE of the reset state: the whole ROM window. DESIGN CHOICE, unsafe (log entry 4). -/
def resetRomSize : Nat := 0x8000
/-- The visible lines of a frame (R6, 60_exceptions.md R312). -/
def visibleLines : Nat := 144

/-- FREE VALUE: the byte that the n-th `draw()` gives (R12; log entry 5). It has no body: no proof can see its value. -/
opaque drawByte : Nat → Byte

/-- FREE VALUE: the cycle cost of an opcode that a per-opcode CYCLE_COST table does not list (70_reset_and_hazards.md
R363 lets a table be taken, R364's lists no unbound opcode; log entry 12). It has no body. -/
opaque unlistedCost : Byte → Nat

end Sys2Proof.Config
end

