-- ==== Sys2Proof/Syntax.lean ====
section
/-! DEFINITION. Syntax.lean: the instructions, one constructor per row of spec/opcode_table.json, in the table's order
(30_encoding.md R113). The operands a row's opcode byte names (a register, a pair, a condition) are part of the
constructor, as they are part of the row; the operands that follow the opcode byte are arguments (R106): `d8` and `a8`
a byte, `d16` and `a16` a word, and the signed offset `r8` of the relative jumps the integer it stands for, in -128 to
127 (WellFormed.lean; log entry 11). -/

namespace Sys2Proof

/-- One instruction. `Ind` marks a memory operand at a pair, `Hli` and `Hld` are (HL+) and (HL-) (00_scope.md R13). -/
inductive Instr where
  /-- NOP, opcode 0x00. -/
  | nop
  /-- LD BC,d16, opcode 0x01. -/
  | ldBcD16 (v : Word)
  /-- LD (BC),A, opcode 0x02. -/
  | ldIndBcA
  /-- INC BC, opcode 0x03. -/
  | incBc
  /-- INC B, opcode 0x04. -/
  | incB
  /-- DEC B, opcode 0x05. -/
  | decB
  /-- LD B,d8, opcode 0x06. -/
  | ldBD8 (v : Byte)
  /-- RLCA, opcode 0x07. -/
  | rlca
  /-- LD (a16),SP, opcode 0x08. -/
  | ldA16Sp (v : Word)
  /-- ADD HL,BC, opcode 0x09. -/
  | addHlBc
  /-- LD A,(BC), opcode 0x0A. -/
  | ldAIndBc
  /-- DEC BC, opcode 0x0B. -/
  | decBc
  /-- INC C, opcode 0x0C. -/
  | incC
  /-- DEC C, opcode 0x0D. -/
  | decC
  /-- LD C,d8, opcode 0x0E. -/
  | ldCD8 (v : Byte)
  /-- RRCA, opcode 0x0F. -/
  | rrca
  /-- STOP, opcode 0x10. -/
  | stop
  /-- LD DE,d16, opcode 0x11. -/
  | ldDeD16 (v : Word)
  /-- LD (DE),A, opcode 0x12. -/
  | ldIndDeA
  /-- INC DE, opcode 0x13. -/
  | incDe
  /-- INC D, opcode 0x14. -/
  | incD
  /-- DEC D, opcode 0x15. -/
  | decD
  /-- LD D,d8, opcode 0x16. -/
  | ldDD8 (v : Byte)
  /-- RLA, opcode 0x17. -/
  | rla
  /-- JR r8, opcode 0x18. -/
  | jrR8 (e : Int)
  /-- ADD HL,DE, opcode 0x19. -/
  | addHlDe
  /-- LD A,(DE), opcode 0x1A. -/
  | ldAIndDe
  /-- DEC DE, opcode 0x1B. -/
  | decDe
  /-- INC E, opcode 0x1C. -/
  | incE
  /-- DEC E, opcode 0x1D. -/
  | decE
  /-- LD E,d8, opcode 0x1E. -/
  | ldED8 (v : Byte)
  /-- RRA, opcode 0x1F. -/
  | rra
  /-- JR NZ,r8, opcode 0x20. -/
  | jrNzR8 (e : Int)
  /-- LD HL,d16, opcode 0x21. -/
  | ldHlD16 (v : Word)
  /-- LD (HL+),A, opcode 0x22. -/
  | ldHliA
  /-- INC HL, opcode 0x23. -/
  | incHl
  /-- INC H, opcode 0x24. -/
  | incH
  /-- DEC H, opcode 0x25. -/
  | decH
  /-- LD H,d8, opcode 0x26. -/
  | ldHD8 (v : Byte)
  /-- DAA, opcode 0x27. -/
  | daa
  /-- JR Z,r8, opcode 0x28. -/
  | jrZR8 (e : Int)
  /-- ADD HL,HL, opcode 0x29. -/
  | addHlHl
  /-- LD A,(HL+), opcode 0x2A. -/
  | ldAHli
  /-- DEC HL, opcode 0x2B. -/
  | decHl
  /-- INC L, opcode 0x2C. -/
  | incL
  /-- DEC L, opcode 0x2D. -/
  | decL
  /-- LD L,d8, opcode 0x2E. -/
  | ldLD8 (v : Byte)
  /-- CPL, opcode 0x2F. -/
  | cpl
  /-- JR NC,r8, opcode 0x30. -/
  | jrNcR8 (e : Int)
  /-- LD SP,d16, opcode 0x31. -/
  | ldSpD16 (v : Word)
  /-- LD (HL-),A, opcode 0x32. -/
  | ldHldA
  /-- INC SP, opcode 0x33. -/
  | incSp
  /-- INC (HL), opcode 0x34. -/
  | incIndHl
  /-- DEC (HL), opcode 0x35. -/
  | decIndHl
  /-- LD (HL),d8, opcode 0x36. -/
  | ldIndHlD8 (v : Byte)
  /-- SCF, opcode 0x37. -/
  | scf
  /-- JR C,r8, opcode 0x38. -/
  | jrCR8 (e : Int)
  /-- ADD HL,SP, opcode 0x39. -/
  | addHlSp
  /-- LD A,(HL-), opcode 0x3A. -/
  | ldAHld
  /-- DEC SP, opcode 0x3B. -/
  | decSp
  /-- INC A, opcode 0x3C. -/
  | incA
  /-- DEC A, opcode 0x3D. -/
  | decA
  /-- LD A,d8, opcode 0x3E. -/
  | ldAD8 (v : Byte)
  /-- CCF, opcode 0x3F. -/
  | ccf
  /-- LD B,B, opcode 0x40. -/
  | ldBB
  /-- LD B,C, opcode 0x41. -/
  | ldBC
  /-- LD B,D, opcode 0x42. -/
  | ldBD
  /-- LD B,E, opcode 0x43. -/
  | ldBE
  /-- LD B,H, opcode 0x44. -/
  | ldBH
  /-- LD B,L, opcode 0x45. -/
  | ldBL
  /-- LD B,(HL), opcode 0x46. -/
  | ldBIndHl
  /-- LD B,A, opcode 0x47. -/
  | ldBA
  /-- LD C,B, opcode 0x48. -/
  | ldCB
  /-- LD C,C, opcode 0x49. -/
  | ldCC
  /-- LD C,D, opcode 0x4A. -/
  | ldCD
  /-- LD C,E, opcode 0x4B. -/
  | ldCE
  /-- LD C,H, opcode 0x4C. -/
  | ldCH
  /-- LD C,L, opcode 0x4D. -/
  | ldCL
  /-- LD C,(HL), opcode 0x4E. -/
  | ldCIndHl
  /-- LD C,A, opcode 0x4F. -/
  | ldCA
  /-- LD D,B, opcode 0x50. -/
  | ldDB
  /-- LD D,C, opcode 0x51. -/
  | ldDC
  /-- LD D,D, opcode 0x52. -/
  | ldDD
  /-- LD D,E, opcode 0x53. -/
  | ldDE
  /-- LD D,H, opcode 0x54. -/
  | ldDH
  /-- LD D,L, opcode 0x55. -/
  | ldDL
  /-- LD D,(HL), opcode 0x56. -/
  | ldDIndHl
  /-- LD D,A, opcode 0x57. -/
  | ldDA
  /-- LD E,B, opcode 0x58. -/
  | ldEB
  /-- LD E,C, opcode 0x59. -/
  | ldEC
  /-- LD E,D, opcode 0x5A. -/
  | ldED
  /-- LD E,E, opcode 0x5B. -/
  | ldEE
  /-- LD E,H, opcode 0x5C. -/
  | ldEH
  /-- LD E,L, opcode 0x5D. -/
  | ldEL
  /-- LD E,(HL), opcode 0x5E. -/
  | ldEIndHl
  /-- LD E,A, opcode 0x5F. -/
  | ldEA
  /-- LD H,B, opcode 0x60. -/
  | ldHB
  /-- LD H,C, opcode 0x61. -/
  | ldHC
  /-- LD H,D, opcode 0x62. -/
  | ldHD
  /-- LD H,E, opcode 0x63. -/
  | ldHE
  /-- LD H,H, opcode 0x64. -/
  | ldHH
  /-- LD H,L, opcode 0x65. -/
  | ldHL
  /-- LD H,(HL), opcode 0x66. -/
  | ldHIndHl
  /-- LD H,A, opcode 0x67. -/
  | ldHA
  /-- LD L,B, opcode 0x68. -/
  | ldLB
  /-- LD L,C, opcode 0x69. -/
  | ldLC
  /-- LD L,D, opcode 0x6A. -/
  | ldLD
  /-- LD L,E, opcode 0x6B. -/
  | ldLE
  /-- LD L,H, opcode 0x6C. -/
  | ldLH
  /-- LD L,L, opcode 0x6D. -/
  | ldLL
  /-- LD L,(HL), opcode 0x6E. -/
  | ldLIndHl
  /-- LD L,A, opcode 0x6F. -/
  | ldLA
  /-- LD (HL),B, opcode 0x70. -/
  | ldIndHlB
  /-- LD (HL),C, opcode 0x71. -/
  | ldIndHlC
  /-- LD (HL),D, opcode 0x72. -/
  | ldIndHlD
  /-- LD (HL),E, opcode 0x73. -/
  | ldIndHlE
  /-- LD (HL),H, opcode 0x74. -/
  | ldIndHlH
  /-- LD (HL),L, opcode 0x75. -/
  | ldIndHlL
  /-- the unbound opcode byte 0x76, opcode 0x76. -/
  | unbound76
  /-- LD (HL),A, opcode 0x77. -/
  | ldIndHlA
  /-- LD A,B, opcode 0x78. -/
  | ldAB
  /-- LD A,C, opcode 0x79. -/
  | ldAC
  /-- LD A,D, opcode 0x7A. -/
  | ldAD
  /-- LD A,E, opcode 0x7B. -/
  | ldAE
  /-- LD A,H, opcode 0x7C. -/
  | ldAH
  /-- LD A,L, opcode 0x7D. -/
  | ldAL
  /-- LD A,(HL), opcode 0x7E. -/
  | ldAIndHl
  /-- LD A,A, opcode 0x7F. -/
  | ldAA
  /-- ADD A,B, opcode 0x80. -/
  | addAB
  /-- ADD A,C, opcode 0x81. -/
  | addAC
  /-- ADD A,D, opcode 0x82. -/
  | addAD
  /-- ADD A,E, opcode 0x83. -/
  | addAE
  /-- ADD A,H, opcode 0x84. -/
  | addAH
  /-- ADD A,L, opcode 0x85. -/
  | addAL
  /-- ADD A,(HL), opcode 0x86. -/
  | addAIndHl
  /-- ADD A,A, opcode 0x87. -/
  | addAA
  /-- ADC A,B, opcode 0x88. -/
  | adcAB
  /-- ADC A,C, opcode 0x89. -/
  | adcAC
  /-- ADC A,D, opcode 0x8A. -/
  | adcAD
  /-- ADC A,E, opcode 0x8B. -/
  | adcAE
  /-- ADC A,H, opcode 0x8C. -/
  | adcAH
  /-- ADC A,L, opcode 0x8D. -/
  | adcAL
  /-- ADC A,(HL), opcode 0x8E. -/
  | adcAIndHl
  /-- ADC A,A, opcode 0x8F. -/
  | adcAA
  /-- the unbound opcode byte 0x90, opcode 0x90. -/
  | unbound90
  /-- the unbound opcode byte 0x91, opcode 0x91. -/
  | unbound91
  /-- the unbound opcode byte 0x92, opcode 0x92. -/
  | unbound92
  /-- the unbound opcode byte 0x93, opcode 0x93. -/
  | unbound93
  /-- the unbound opcode byte 0x94, opcode 0x94. -/
  | unbound94
  /-- the unbound opcode byte 0x95, opcode 0x95. -/
  | unbound95
  /-- the unbound opcode byte 0x96, opcode 0x96. -/
  | unbound96
  /-- the unbound opcode byte 0x97, opcode 0x97. -/
  | unbound97
  /-- the unbound opcode byte 0x98, opcode 0x98. -/
  | unbound98
  /-- the unbound opcode byte 0x99, opcode 0x99. -/
  | unbound99
  /-- the unbound opcode byte 0x9A, opcode 0x9A. -/
  | unbound9A
  /-- the unbound opcode byte 0x9B, opcode 0x9B. -/
  | unbound9B
  /-- the unbound opcode byte 0x9C, opcode 0x9C. -/
  | unbound9C
  /-- the unbound opcode byte 0x9D, opcode 0x9D. -/
  | unbound9D
  /-- the unbound opcode byte 0x9E, opcode 0x9E. -/
  | unbound9E
  /-- the unbound opcode byte 0x9F, opcode 0x9F. -/
  | unbound9F
  /-- the unbound opcode byte 0xA0, opcode 0xA0. -/
  | unboundA0
  /-- the unbound opcode byte 0xA1, opcode 0xA1. -/
  | unboundA1
  /-- the unbound opcode byte 0xA2, opcode 0xA2. -/
  | unboundA2
  /-- the unbound opcode byte 0xA3, opcode 0xA3. -/
  | unboundA3
  /-- the unbound opcode byte 0xA4, opcode 0xA4. -/
  | unboundA4
  /-- the unbound opcode byte 0xA5, opcode 0xA5. -/
  | unboundA5
  /-- the unbound opcode byte 0xA6, opcode 0xA6. -/
  | unboundA6
  /-- the unbound opcode byte 0xA7, opcode 0xA7. -/
  | unboundA7
  /-- the unbound opcode byte 0xA8, opcode 0xA8. -/
  | unboundA8
  /-- the unbound opcode byte 0xA9, opcode 0xA9. -/
  | unboundA9
  /-- the unbound opcode byte 0xAA, opcode 0xAA. -/
  | unboundAA
  /-- the unbound opcode byte 0xAB, opcode 0xAB. -/
  | unboundAB
  /-- the unbound opcode byte 0xAC, opcode 0xAC. -/
  | unboundAC
  /-- the unbound opcode byte 0xAD, opcode 0xAD. -/
  | unboundAD
  /-- the unbound opcode byte 0xAE, opcode 0xAE. -/
  | unboundAE
  /-- the unbound opcode byte 0xAF, opcode 0xAF. -/
  | unboundAF
  /-- the unbound opcode byte 0xB0, opcode 0xB0. -/
  | unboundB0
  /-- the unbound opcode byte 0xB1, opcode 0xB1. -/
  | unboundB1
  /-- the unbound opcode byte 0xB2, opcode 0xB2. -/
  | unboundB2
  /-- the unbound opcode byte 0xB3, opcode 0xB3. -/
  | unboundB3
  /-- the unbound opcode byte 0xB4, opcode 0xB4. -/
  | unboundB4
  /-- the unbound opcode byte 0xB5, opcode 0xB5. -/
  | unboundB5
  /-- the unbound opcode byte 0xB6, opcode 0xB6. -/
  | unboundB6
  /-- the unbound opcode byte 0xB7, opcode 0xB7. -/
  | unboundB7
  /-- the unbound opcode byte 0xB8, opcode 0xB8. -/
  | unboundB8
  /-- the unbound opcode byte 0xB9, opcode 0xB9. -/
  | unboundB9
  /-- the unbound opcode byte 0xBA, opcode 0xBA. -/
  | unboundBA
  /-- the unbound opcode byte 0xBB, opcode 0xBB. -/
  | unboundBB
  /-- the unbound opcode byte 0xBC, opcode 0xBC. -/
  | unboundBC
  /-- the unbound opcode byte 0xBD, opcode 0xBD. -/
  | unboundBD
  /-- the unbound opcode byte 0xBE, opcode 0xBE. -/
  | unboundBE
  /-- the unbound opcode byte 0xBF, opcode 0xBF. -/
  | unboundBF
  /-- the unbound opcode byte 0xC0, opcode 0xC0. -/
  | unboundC0
  /-- the unbound opcode byte 0xC1, opcode 0xC1. -/
  | unboundC1
  /-- the unbound opcode byte 0xC2, opcode 0xC2. -/
  | unboundC2
  /-- the unbound opcode byte 0xC3, opcode 0xC3. -/
  | unboundC3
  /-- the unbound opcode byte 0xC4, opcode 0xC4. -/
  | unboundC4
  /-- the unbound opcode byte 0xC5, opcode 0xC5. -/
  | unboundC5
  /-- the unbound opcode byte 0xC6, opcode 0xC6. -/
  | unboundC6
  /-- the unbound opcode byte 0xC7, opcode 0xC7. -/
  | unboundC7
  /-- the unbound opcode byte 0xC8, opcode 0xC8. -/
  | unboundC8
  /-- the unbound opcode byte 0xC9, opcode 0xC9. -/
  | unboundC9
  /-- the unbound opcode byte 0xCA, opcode 0xCA. -/
  | unboundCA
  /-- the unbound opcode byte 0xCB, opcode 0xCB. -/
  | unboundCB
  /-- the unbound opcode byte 0xCC, opcode 0xCC. -/
  | unboundCC
  /-- the unbound opcode byte 0xCD, opcode 0xCD. -/
  | unboundCD
  /-- the unbound opcode byte 0xCE, opcode 0xCE. -/
  | unboundCE
  /-- the unbound opcode byte 0xCF, opcode 0xCF. -/
  | unboundCF
  /-- the unbound opcode byte 0xD0, opcode 0xD0. -/
  | unboundD0
  /-- the unbound opcode byte 0xD1, opcode 0xD1. -/
  | unboundD1
  /-- the unbound opcode byte 0xD2, opcode 0xD2. -/
  | unboundD2
  /-- the unbound opcode byte 0xD3, opcode 0xD3. -/
  | unboundD3
  /-- the unbound opcode byte 0xD4, opcode 0xD4. -/
  | unboundD4
  /-- the unbound opcode byte 0xD5, opcode 0xD5. -/
  | unboundD5
  /-- the unbound opcode byte 0xD6, opcode 0xD6. -/
  | unboundD6
  /-- the unbound opcode byte 0xD7, opcode 0xD7. -/
  | unboundD7
  /-- the unbound opcode byte 0xD8, opcode 0xD8. -/
  | unboundD8
  /-- the unbound opcode byte 0xD9, opcode 0xD9. -/
  | unboundD9
  /-- the unbound opcode byte 0xDA, opcode 0xDA. -/
  | unboundDA
  /-- the unbound opcode byte 0xDB, opcode 0xDB. -/
  | unboundDB
  /-- the unbound opcode byte 0xDC, opcode 0xDC. -/
  | unboundDC
  /-- the unbound opcode byte 0xDD, opcode 0xDD. -/
  | unboundDD
  /-- the unbound opcode byte 0xDE, opcode 0xDE. -/
  | unboundDE
  /-- the unbound opcode byte 0xDF, opcode 0xDF. -/
  | unboundDF
  /-- LDH (a8),A, opcode 0xE0. -/
  | ldhA8A (o : Byte)
  /-- the unbound opcode byte 0xE1, opcode 0xE1. -/
  | unboundE1
  /-- the unbound opcode byte 0xE2, opcode 0xE2. -/
  | unboundE2
  /-- the unbound opcode byte 0xE3, opcode 0xE3. -/
  | unboundE3
  /-- the unbound opcode byte 0xE4, opcode 0xE4. -/
  | unboundE4
  /-- the unbound opcode byte 0xE5, opcode 0xE5. -/
  | unboundE5
  /-- the unbound opcode byte 0xE6, opcode 0xE6. -/
  | unboundE6
  /-- the unbound opcode byte 0xE7, opcode 0xE7. -/
  | unboundE7
  /-- the unbound opcode byte 0xE8, opcode 0xE8. -/
  | unboundE8
  /-- the unbound opcode byte 0xE9, opcode 0xE9. -/
  | unboundE9
  /-- the unbound opcode byte 0xEA, opcode 0xEA. -/
  | unboundEA
  /-- the unbound opcode byte 0xEB, opcode 0xEB. -/
  | unboundEB
  /-- the unbound opcode byte 0xEC, opcode 0xEC. -/
  | unboundEC
  /-- the unbound opcode byte 0xED, opcode 0xED. -/
  | unboundED
  /-- the unbound opcode byte 0xEE, opcode 0xEE. -/
  | unboundEE
  /-- the unbound opcode byte 0xEF, opcode 0xEF. -/
  | unboundEF
  /-- LDH A,(a8), opcode 0xF0. -/
  | ldhAA8 (o : Byte)
  /-- the unbound opcode byte 0xF1, opcode 0xF1. -/
  | unboundF1
  /-- the unbound opcode byte 0xF2, opcode 0xF2. -/
  | unboundF2
  /-- the unbound opcode byte 0xF3, opcode 0xF3. -/
  | unboundF3
  /-- the unbound opcode byte 0xF4, opcode 0xF4. -/
  | unboundF4
  /-- the unbound opcode byte 0xF5, opcode 0xF5. -/
  | unboundF5
  /-- the unbound opcode byte 0xF6, opcode 0xF6. -/
  | unboundF6
  /-- the unbound opcode byte 0xF7, opcode 0xF7. -/
  | unboundF7
  /-- the unbound opcode byte 0xF8, opcode 0xF8. -/
  | unboundF8
  /-- the unbound opcode byte 0xF9, opcode 0xF9. -/
  | unboundF9
  /-- the unbound opcode byte 0xFA, opcode 0xFA. -/
  | unboundFA
  /-- the unbound opcode byte 0xFB, opcode 0xFB. -/
  | unboundFB
  /-- the unbound opcode byte 0xFC, opcode 0xFC. -/
  | unboundFC
  /-- the unbound opcode byte 0xFD, opcode 0xFD. -/
  | unboundFD
  /-- the unbound opcode byte 0xFE, opcode 0xFE. -/
  | unboundFE
  /-- the unbound opcode byte 0xFF, opcode 0xFF. -/
  | unboundFF
deriving DecidableEq, Repr

end Sys2Proof
end

