-- ==== Sys2Proof/Decode.lean ====
section
/-! DEFINITION. Decode.lean: from bytes to an instruction and back (30_encoding.md). The decoder is written from the
opcode map of R113, the encoder from R113's table of bit patterns and the field tables R102 to R105: two different
tables of the spec, so that decoding an encoded instruction to itself is a check of both. -/

namespace Sys2Proof

/-! ### Byte order -/

/-- `hi:lo`, the word whose bits 15 to 8 are `hi` (00_scope.md R7). -/
def wordOf (hi lo : Byte) : Word := hi ++ lo

/-- Bits 15 to 8 of a word (R7). -/
def highByte (w : Word) : Byte := w.extractLsb' 8 8

/-- Bits 7 to 0 of a word (R7). -/
def lowByte (w : Word) : Byte := w.extractLsb' 0 8

/-! ### Operand fields -/

/-- The 8-bit register operands (R103, without the value 6, which names the memory byte at HL). -/
inductive Reg8 where
  | b | c | d | e | h | l | a
deriving DecidableEq, Repr

/-- The 16-bit operands of LD rr,d16, INC rr, DEC rr and ADD HL,rr (R102). -/
inductive Pair where
  | bc | de | hl | sp
deriving DecidableEq, Repr

/-- The indirect operands of LD (ind),A and LD A,(ind) (R105). -/
inductive Indirect where
  | bc | de | hli | hld
deriving DecidableEq, Repr

/-- The branch conditions of JR cc,r8 (R104). -/
inductive Cond where
  | nz | z | nc | c
deriving DecidableEq, Repr

/-- The 3-bit register field (R103). -/
def Reg8.code : Reg8 → BitVec 3
  | .b => 0b000#3 | .c => 0b001#3 | .d => 0b010#3 | .e => 0b011#3
  | .h => 0b100#3 | .l => 0b101#3 | .a => 0b111#3

/-- The 2-bit pair field (R102). -/
def Pair.code : Pair → BitVec 2
  | .bc => 0b00#2 | .de => 0b01#2 | .hl => 0b10#2 | .sp => 0b11#2

/-- The 2-bit indirect pair field (R105). -/
def Indirect.code : Indirect → BitVec 2
  | .bc => 0b00#2 | .de => 0b01#2 | .hli => 0b10#2 | .hld => 0b11#2

/-- The 2-bit condition field (R104). -/
def Cond.code : Cond → BitVec 2
  | .nz => 0b00#2 | .z => 0b01#2 | .nc => 0b10#2 | .c => 0b11#2

/-! ### The instruction rules -/

/-- The instruction rules: one constructor per line of R113's table of bit patterns (and per memory form), the fields
of the pattern as its operands. -/
inductive Form where
  | nop
  | stop
  | ldPairImm (p : Pair) (v : Word)
  | ldIndA (i : Indirect)
  | ldAInd (i : Indirect)
  | incPair (p : Pair)
  | decPair (p : Pair)
  | incReg (r : Reg8)
  | incMem
  | decReg (r : Reg8)
  | decMem
  | ldRegImm (r : Reg8) (v : Byte)
  | ldMemImm (v : Byte)
  | ldA16Sp (v : Word)
  | rlca
  | rrca
  | rla
  | rra
  | addHl (p : Pair)
  | jr (e : Int)
  | jrCond (cc : Cond) (e : Int)
  | daa
  | cpl
  | scf
  | ccf
  | ldRegReg (r r' : Reg8)
  | ldRegMem (r : Reg8)
  | ldMemReg (r : Reg8)
  | addReg (r : Reg8)
  | addMem
  | adcReg (r : Reg8)
  | adcMem
  | ldhStore (o : Byte)
  | ldhLoad (o : Byte)
  | unbound (op : Byte)
deriving DecidableEq, Repr

/-- The rule and the operands of each row of the table. -/
def Instr.form : Instr → Form
  | .nop => .nop
  | .ldBcD16 v => .ldPairImm .bc v
  | .ldIndBcA => .ldIndA .bc
  | .incBc => .incPair .bc
  | .incB => .incReg .b
  | .decB => .decReg .b
  | .ldBD8 v => .ldRegImm .b v
  | .rlca => .rlca
  | .ldA16Sp v => .ldA16Sp v
  | .addHlBc => .addHl .bc
  | .ldAIndBc => .ldAInd .bc
  | .decBc => .decPair .bc
  | .incC => .incReg .c
  | .decC => .decReg .c
  | .ldCD8 v => .ldRegImm .c v
  | .rrca => .rrca
  | .stop => .stop
  | .ldDeD16 v => .ldPairImm .de v
  | .ldIndDeA => .ldIndA .de
  | .incDe => .incPair .de
  | .incD => .incReg .d
  | .decD => .decReg .d
  | .ldDD8 v => .ldRegImm .d v
  | .rla => .rla
  | .jrR8 e => .jr e
  | .addHlDe => .addHl .de
  | .ldAIndDe => .ldAInd .de
  | .decDe => .decPair .de
  | .incE => .incReg .e
  | .decE => .decReg .e
  | .ldED8 v => .ldRegImm .e v
  | .rra => .rra
  | .jrNzR8 e => .jrCond .nz e
  | .ldHlD16 v => .ldPairImm .hl v
  | .ldHliA => .ldIndA .hli
  | .incHl => .incPair .hl
  | .incH => .incReg .h
  | .decH => .decReg .h
  | .ldHD8 v => .ldRegImm .h v
  | .daa => .daa
  | .jrZR8 e => .jrCond .z e
  | .addHlHl => .addHl .hl
  | .ldAHli => .ldAInd .hli
  | .decHl => .decPair .hl
  | .incL => .incReg .l
  | .decL => .decReg .l
  | .ldLD8 v => .ldRegImm .l v
  | .cpl => .cpl
  | .jrNcR8 e => .jrCond .nc e
  | .ldSpD16 v => .ldPairImm .sp v
  | .ldHldA => .ldIndA .hld
  | .incSp => .incPair .sp
  | .incIndHl => .incMem
  | .decIndHl => .decMem
  | .ldIndHlD8 v => .ldMemImm v
  | .scf => .scf
  | .jrCR8 e => .jrCond .c e
  | .addHlSp => .addHl .sp
  | .ldAHld => .ldAInd .hld
  | .decSp => .decPair .sp
  | .incA => .incReg .a
  | .decA => .decReg .a
  | .ldAD8 v => .ldRegImm .a v
  | .ccf => .ccf
  | .ldBB => .ldRegReg .b .b
  | .ldBC => .ldRegReg .b .c
  | .ldBD => .ldRegReg .b .d
  | .ldBE => .ldRegReg .b .e
  | .ldBH => .ldRegReg .b .h
  | .ldBL => .ldRegReg .b .l
  | .ldBIndHl => .ldRegMem .b
  | .ldBA => .ldRegReg .b .a
  | .ldCB => .ldRegReg .c .b
  | .ldCC => .ldRegReg .c .c
  | .ldCD => .ldRegReg .c .d
  | .ldCE => .ldRegReg .c .e
  | .ldCH => .ldRegReg .c .h
  | .ldCL => .ldRegReg .c .l
  | .ldCIndHl => .ldRegMem .c
  | .ldCA => .ldRegReg .c .a
  | .ldDB => .ldRegReg .d .b
  | .ldDC => .ldRegReg .d .c
  | .ldDD => .ldRegReg .d .d
  | .ldDE => .ldRegReg .d .e
  | .ldDH => .ldRegReg .d .h
  | .ldDL => .ldRegReg .d .l
  | .ldDIndHl => .ldRegMem .d
  | .ldDA => .ldRegReg .d .a
  | .ldEB => .ldRegReg .e .b
  | .ldEC => .ldRegReg .e .c
  | .ldED => .ldRegReg .e .d
  | .ldEE => .ldRegReg .e .e
  | .ldEH => .ldRegReg .e .h
  | .ldEL => .ldRegReg .e .l
  | .ldEIndHl => .ldRegMem .e
  | .ldEA => .ldRegReg .e .a
  | .ldHB => .ldRegReg .h .b
  | .ldHC => .ldRegReg .h .c
  | .ldHD => .ldRegReg .h .d
  | .ldHE => .ldRegReg .h .e
  | .ldHH => .ldRegReg .h .h
  | .ldHL => .ldRegReg .h .l
  | .ldHIndHl => .ldRegMem .h
  | .ldHA => .ldRegReg .h .a
  | .ldLB => .ldRegReg .l .b
  | .ldLC => .ldRegReg .l .c
  | .ldLD => .ldRegReg .l .d
  | .ldLE => .ldRegReg .l .e
  | .ldLH => .ldRegReg .l .h
  | .ldLL => .ldRegReg .l .l
  | .ldLIndHl => .ldRegMem .l
  | .ldLA => .ldRegReg .l .a
  | .ldIndHlB => .ldMemReg .b
  | .ldIndHlC => .ldMemReg .c
  | .ldIndHlD => .ldMemReg .d
  | .ldIndHlE => .ldMemReg .e
  | .ldIndHlH => .ldMemReg .h
  | .ldIndHlL => .ldMemReg .l
  | .unbound76 => .unbound 0x76#8
  | .ldIndHlA => .ldMemReg .a
  | .ldAB => .ldRegReg .a .b
  | .ldAC => .ldRegReg .a .c
  | .ldAD => .ldRegReg .a .d
  | .ldAE => .ldRegReg .a .e
  | .ldAH => .ldRegReg .a .h
  | .ldAL => .ldRegReg .a .l
  | .ldAIndHl => .ldRegMem .a
  | .ldAA => .ldRegReg .a .a
  | .addAB => .addReg .b
  | .addAC => .addReg .c
  | .addAD => .addReg .d
  | .addAE => .addReg .e
  | .addAH => .addReg .h
  | .addAL => .addReg .l
  | .addAIndHl => .addMem
  | .addAA => .addReg .a
  | .adcAB => .adcReg .b
  | .adcAC => .adcReg .c
  | .adcAD => .adcReg .d
  | .adcAE => .adcReg .e
  | .adcAH => .adcReg .h
  | .adcAL => .adcReg .l
  | .adcAIndHl => .adcMem
  | .adcAA => .adcReg .a
  | .unbound90 => .unbound 0x90#8
  | .unbound91 => .unbound 0x91#8
  | .unbound92 => .unbound 0x92#8
  | .unbound93 => .unbound 0x93#8
  | .unbound94 => .unbound 0x94#8
  | .unbound95 => .unbound 0x95#8
  | .unbound96 => .unbound 0x96#8
  | .unbound97 => .unbound 0x97#8
  | .unbound98 => .unbound 0x98#8
  | .unbound99 => .unbound 0x99#8
  | .unbound9A => .unbound 0x9A#8
  | .unbound9B => .unbound 0x9B#8
  | .unbound9C => .unbound 0x9C#8
  | .unbound9D => .unbound 0x9D#8
  | .unbound9E => .unbound 0x9E#8
  | .unbound9F => .unbound 0x9F#8
  | .unboundA0 => .unbound 0xA0#8
  | .unboundA1 => .unbound 0xA1#8
  | .unboundA2 => .unbound 0xA2#8
  | .unboundA3 => .unbound 0xA3#8
  | .unboundA4 => .unbound 0xA4#8
  | .unboundA5 => .unbound 0xA5#8
  | .unboundA6 => .unbound 0xA6#8
  | .unboundA7 => .unbound 0xA7#8
  | .unboundA8 => .unbound 0xA8#8
  | .unboundA9 => .unbound 0xA9#8
  | .unboundAA => .unbound 0xAA#8
  | .unboundAB => .unbound 0xAB#8
  | .unboundAC => .unbound 0xAC#8
  | .unboundAD => .unbound 0xAD#8
  | .unboundAE => .unbound 0xAE#8
  | .unboundAF => .unbound 0xAF#8
  | .unboundB0 => .unbound 0xB0#8
  | .unboundB1 => .unbound 0xB1#8
  | .unboundB2 => .unbound 0xB2#8
  | .unboundB3 => .unbound 0xB3#8
  | .unboundB4 => .unbound 0xB4#8
  | .unboundB5 => .unbound 0xB5#8
  | .unboundB6 => .unbound 0xB6#8
  | .unboundB7 => .unbound 0xB7#8
  | .unboundB8 => .unbound 0xB8#8
  | .unboundB9 => .unbound 0xB9#8
  | .unboundBA => .unbound 0xBA#8
  | .unboundBB => .unbound 0xBB#8
  | .unboundBC => .unbound 0xBC#8
  | .unboundBD => .unbound 0xBD#8
  | .unboundBE => .unbound 0xBE#8
  | .unboundBF => .unbound 0xBF#8
  | .unboundC0 => .unbound 0xC0#8
  | .unboundC1 => .unbound 0xC1#8
  | .unboundC2 => .unbound 0xC2#8
  | .unboundC3 => .unbound 0xC3#8
  | .unboundC4 => .unbound 0xC4#8
  | .unboundC5 => .unbound 0xC5#8
  | .unboundC6 => .unbound 0xC6#8
  | .unboundC7 => .unbound 0xC7#8
  | .unboundC8 => .unbound 0xC8#8
  | .unboundC9 => .unbound 0xC9#8
  | .unboundCA => .unbound 0xCA#8
  | .unboundCB => .unbound 0xCB#8
  | .unboundCC => .unbound 0xCC#8
  | .unboundCD => .unbound 0xCD#8
  | .unboundCE => .unbound 0xCE#8
  | .unboundCF => .unbound 0xCF#8
  | .unboundD0 => .unbound 0xD0#8
  | .unboundD1 => .unbound 0xD1#8
  | .unboundD2 => .unbound 0xD2#8
  | .unboundD3 => .unbound 0xD3#8
  | .unboundD4 => .unbound 0xD4#8
  | .unboundD5 => .unbound 0xD5#8
  | .unboundD6 => .unbound 0xD6#8
  | .unboundD7 => .unbound 0xD7#8
  | .unboundD8 => .unbound 0xD8#8
  | .unboundD9 => .unbound 0xD9#8
  | .unboundDA => .unbound 0xDA#8
  | .unboundDB => .unbound 0xDB#8
  | .unboundDC => .unbound 0xDC#8
  | .unboundDD => .unbound 0xDD#8
  | .unboundDE => .unbound 0xDE#8
  | .unboundDF => .unbound 0xDF#8
  | .ldhA8A o => .ldhStore o
  | .unboundE1 => .unbound 0xE1#8
  | .unboundE2 => .unbound 0xE2#8
  | .unboundE3 => .unbound 0xE3#8
  | .unboundE4 => .unbound 0xE4#8
  | .unboundE5 => .unbound 0xE5#8
  | .unboundE6 => .unbound 0xE6#8
  | .unboundE7 => .unbound 0xE7#8
  | .unboundE8 => .unbound 0xE8#8
  | .unboundE9 => .unbound 0xE9#8
  | .unboundEA => .unbound 0xEA#8
  | .unboundEB => .unbound 0xEB#8
  | .unboundEC => .unbound 0xEC#8
  | .unboundED => .unbound 0xED#8
  | .unboundEE => .unbound 0xEE#8
  | .unboundEF => .unbound 0xEF#8
  | .ldhAA8 o => .ldhLoad o
  | .unboundF1 => .unbound 0xF1#8
  | .unboundF2 => .unbound 0xF2#8
  | .unboundF3 => .unbound 0xF3#8
  | .unboundF4 => .unbound 0xF4#8
  | .unboundF5 => .unbound 0xF5#8
  | .unboundF6 => .unbound 0xF6#8
  | .unboundF7 => .unbound 0xF7#8
  | .unboundF8 => .unbound 0xF8#8
  | .unboundF9 => .unbound 0xF9#8
  | .unboundFA => .unbound 0xFA#8
  | .unboundFB => .unbound 0xFB#8
  | .unboundFC => .unbound 0xFC#8
  | .unboundFD => .unbound 0xFD#8
  | .unboundFE => .unbound 0xFE#8
  | .unboundFF => .unbound 0xFF#8

/-- The opcode byte of each rule, most significant bit first (R113's bit patterns). -/
def Form.opcode : Form → Byte
  | .nop => 0b00000000#8
  | .stop => 0b00010000#8
  | .ldPairImm p _ => 0b00#2 ++ p.code ++ 0b0001#4
  | .ldIndA i => 0b00#2 ++ i.code ++ 0b0010#4
  | .ldAInd i => 0b00#2 ++ i.code ++ 0b1010#4
  | .incPair p => 0b00#2 ++ p.code ++ 0b0011#4
  | .decPair p => 0b00#2 ++ p.code ++ 0b1011#4
  | .incReg r => 0b00#2 ++ r.code ++ 0b100#3
  | .incMem => 0b00110100#8
  | .decReg r => 0b00#2 ++ r.code ++ 0b101#3
  | .decMem => 0b00110101#8
  | .ldRegImm r _ => 0b00#2 ++ r.code ++ 0b110#3
  | .ldMemImm _ => 0b00110110#8
  | .ldA16Sp _ => 0b00001000#8
  | .rlca => 0b00000111#8
  | .rrca => 0b00001111#8
  | .rla => 0b00010111#8
  | .rra => 0b00011111#8
  | .addHl p => 0b00#2 ++ p.code ++ 0b1001#4
  | .jr _ => 0b00011000#8
  | .jrCond cc _ => 0b001#3 ++ cc.code ++ 0b000#3
  | .daa => 0b00100111#8
  | .cpl => 0b00101111#8
  | .scf => 0b00110111#8
  | .ccf => 0b00111111#8
  | .ldRegReg r r' => 0b01#2 ++ r.code ++ r'.code
  | .ldRegMem r => 0b01#2 ++ r.code ++ 0b110#3
  | .ldMemReg r => 0b01110#5 ++ r.code
  | .addReg r => 0b10000#5 ++ r.code
  | .addMem => 0b10000110#8
  | .adcReg r => 0b10001#5 ++ r.code
  | .adcMem => 0b10001110#8
  | .ldhStore _ => 0b11100000#8
  | .ldhLoad _ => 0b11110000#8
  | .unbound op => op

/-- The operand bytes in the order they are fetched, the low byte of a word first (R100, R106, 20_memory.md R71). -/
def Form.operandBytes : Form → List Byte
  | .ldPairImm _ v | .ldA16Sp v => [lowByte v, highByte v]
  | .ldRegImm _ v | .ldMemImm v => [v]
  | .ldhStore o | .ldhLoad o => [o]
  | .jr e | .jrCond _ e => [BitVec.ofInt 8 e]
  | .nop | .stop | .ldIndA _ | .ldAInd _ | .incPair _ | .decPair _ | .incReg _ | .incMem | .decReg _ | .decMem
  | .rlca | .rrca | .rla | .rra | .addHl _ | .daa | .cpl | .scf | .ccf | .ldRegReg _ _ | .ldRegMem _ | .ldMemReg _
  | .addReg _ | .addMem | .adcReg _ | .adcMem | .unbound _ => []

/-- The opcode byte of an instruction. -/
def Instr.opcode (i : Instr) : Byte := i.form.opcode

/-! ### Lengths -/

/-- The parameter STOP_LENGTH (00_scope.md R6, 46_misc.md R241). -/
inductive StopLength where
  | one | two
deriving DecidableEq, Repr

/-- How many operand bytes follow an opcode byte: a function of the opcode byte alone (R100), the formats F3 and F2 by
R113's patterns, and one discarded byte after STOP when STOP_LENGTH is 2 (46_misc.md R241). -/
def operandCount (stopLength : StopLength) (op : Byte) : Nat :=
  if op &&& 0b11001111#8 = 0b00000001#8 then 2        -- 00pp0001: LD rr,d16
  else if op = 0b00001000#8 then 2                    -- LD (a16),SP
  else if op &&& 0b11000111#8 = 0b00000110#8 then 1   -- 00rrr110: LD r,d8 and LD (HL),d8
  else if op &&& 0b11100111#8 = 0b00100000#8 then 1   -- 001cc000: JR cc,r8
  else if op = 0b00011000#8 then 1                    -- JR r8
  else if op = 0b11100000#8 then 1                    -- LDH (a8),A
  else if op = 0b11110000#8 then 1                    -- LDH A,(a8)
  else if op = 0b00010000#8 then                      -- STOP
    match stopLength with
    | .one => 0
    | .two => 1
  else 0

/-! ### The decoder -/

/-- Row 0_ of the opcode map (R113), by the low hex digit; `o1` and `o2` are the first and the second operand byte. -/
def decodeRow0 (lo : Nat) (o1 o2 : Byte) : Instr :=
  match lo with
  | 0 => .nop
  | 1 => .ldBcD16 (wordOf o2 o1)
  | 2 => .ldIndBcA
  | 3 => .incBc
  | 4 => .incB
  | 5 => .decB
  | 6 => .ldBD8 o1
  | 7 => .rlca
  | 8 => .ldA16Sp (wordOf o2 o1)
  | 9 => .addHlBc
  | 10 => .ldAIndBc
  | 11 => .decBc
  | 12 => .incC
  | 13 => .decC
  | 14 => .ldCD8 o1
  | _ => .rrca

/-- Row 1_ of the opcode map (R113), by the low hex digit; `o1` and `o2` are the first and the second operand byte. -/
def decodeRow1 (lo : Nat) (o1 o2 : Byte) : Instr :=
  match lo with
  | 0 => .stop
  | 1 => .ldDeD16 (wordOf o2 o1)
  | 2 => .ldIndDeA
  | 3 => .incDe
  | 4 => .incD
  | 5 => .decD
  | 6 => .ldDD8 o1
  | 7 => .rla
  | 8 => .jrR8 o1.toInt
  | 9 => .addHlDe
  | 10 => .ldAIndDe
  | 11 => .decDe
  | 12 => .incE
  | 13 => .decE
  | 14 => .ldED8 o1
  | _ => .rra

/-- Row 2_ of the opcode map (R113), by the low hex digit; `o1` and `o2` are the first and the second operand byte. -/
def decodeRow2 (lo : Nat) (o1 o2 : Byte) : Instr :=
  match lo with
  | 0 => .jrNzR8 o1.toInt
  | 1 => .ldHlD16 (wordOf o2 o1)
  | 2 => .ldHliA
  | 3 => .incHl
  | 4 => .incH
  | 5 => .decH
  | 6 => .ldHD8 o1
  | 7 => .daa
  | 8 => .jrZR8 o1.toInt
  | 9 => .addHlHl
  | 10 => .ldAHli
  | 11 => .decHl
  | 12 => .incL
  | 13 => .decL
  | 14 => .ldLD8 o1
  | _ => .cpl

/-- Row 3_ of the opcode map (R113), by the low hex digit; `o1` and `o2` are the first and the second operand byte. -/
def decodeRow3 (lo : Nat) (o1 o2 : Byte) : Instr :=
  match lo with
  | 0 => .jrNcR8 o1.toInt
  | 1 => .ldSpD16 (wordOf o2 o1)
  | 2 => .ldHldA
  | 3 => .incSp
  | 4 => .incIndHl
  | 5 => .decIndHl
  | 6 => .ldIndHlD8 o1
  | 7 => .scf
  | 8 => .jrCR8 o1.toInt
  | 9 => .addHlSp
  | 10 => .ldAHld
  | 11 => .decSp
  | 12 => .incA
  | 13 => .decA
  | 14 => .ldAD8 o1
  | _ => .ccf

/-- Row 4_ of the opcode map (R113), by the low hex digit. -/
def decodeRow4 (lo : Nat) : Instr :=
  match lo with
  | 0 => .ldBB
  | 1 => .ldBC
  | 2 => .ldBD
  | 3 => .ldBE
  | 4 => .ldBH
  | 5 => .ldBL
  | 6 => .ldBIndHl
  | 7 => .ldBA
  | 8 => .ldCB
  | 9 => .ldCC
  | 10 => .ldCD
  | 11 => .ldCE
  | 12 => .ldCH
  | 13 => .ldCL
  | 14 => .ldCIndHl
  | _ => .ldCA

/-- Row 5_ of the opcode map (R113), by the low hex digit. -/
def decodeRow5 (lo : Nat) : Instr :=
  match lo with
  | 0 => .ldDB
  | 1 => .ldDC
  | 2 => .ldDD
  | 3 => .ldDE
  | 4 => .ldDH
  | 5 => .ldDL
  | 6 => .ldDIndHl
  | 7 => .ldDA
  | 8 => .ldEB
  | 9 => .ldEC
  | 10 => .ldED
  | 11 => .ldEE
  | 12 => .ldEH
  | 13 => .ldEL
  | 14 => .ldEIndHl
  | _ => .ldEA

/-- Row 6_ of the opcode map (R113), by the low hex digit. -/
def decodeRow6 (lo : Nat) : Instr :=
  match lo with
  | 0 => .ldHB
  | 1 => .ldHC
  | 2 => .ldHD
  | 3 => .ldHE
  | 4 => .ldHH
  | 5 => .ldHL
  | 6 => .ldHIndHl
  | 7 => .ldHA
  | 8 => .ldLB
  | 9 => .ldLC
  | 10 => .ldLD
  | 11 => .ldLE
  | 12 => .ldLH
  | 13 => .ldLL
  | 14 => .ldLIndHl
  | _ => .ldLA

/-- Row 7_ of the opcode map (R113), by the low hex digit. -/
def decodeRow7 (lo : Nat) : Instr :=
  match lo with
  | 0 => .ldIndHlB
  | 1 => .ldIndHlC
  | 2 => .ldIndHlD
  | 3 => .ldIndHlE
  | 4 => .ldIndHlH
  | 5 => .ldIndHlL
  | 6 => .unbound76
  | 7 => .ldIndHlA
  | 8 => .ldAB
  | 9 => .ldAC
  | 10 => .ldAD
  | 11 => .ldAE
  | 12 => .ldAH
  | 13 => .ldAL
  | 14 => .ldAIndHl
  | _ => .ldAA

/-- Row 8_ of the opcode map (R113), by the low hex digit. -/
def decodeRow8 (lo : Nat) : Instr :=
  match lo with
  | 0 => .addAB
  | 1 => .addAC
  | 2 => .addAD
  | 3 => .addAE
  | 4 => .addAH
  | 5 => .addAL
  | 6 => .addAIndHl
  | 7 => .addAA
  | 8 => .adcAB
  | 9 => .adcAC
  | 10 => .adcAD
  | 11 => .adcAE
  | 12 => .adcAH
  | 13 => .adcAL
  | 14 => .adcAIndHl
  | _ => .adcAA

/-- Row 9_ of the opcode map (R113), by the low hex digit. -/
def decodeRow9 (lo : Nat) : Instr :=
  match lo with
  | 0 => .unbound90
  | 1 => .unbound91
  | 2 => .unbound92
  | 3 => .unbound93
  | 4 => .unbound94
  | 5 => .unbound95
  | 6 => .unbound96
  | 7 => .unbound97
  | 8 => .unbound98
  | 9 => .unbound99
  | 10 => .unbound9A
  | 11 => .unbound9B
  | 12 => .unbound9C
  | 13 => .unbound9D
  | 14 => .unbound9E
  | _ => .unbound9F

/-- Row A_ of the opcode map (R113), by the low hex digit. -/
def decodeRowA (lo : Nat) : Instr :=
  match lo with
  | 0 => .unboundA0
  | 1 => .unboundA1
  | 2 => .unboundA2
  | 3 => .unboundA3
  | 4 => .unboundA4
  | 5 => .unboundA5
  | 6 => .unboundA6
  | 7 => .unboundA7
  | 8 => .unboundA8
  | 9 => .unboundA9
  | 10 => .unboundAA
  | 11 => .unboundAB
  | 12 => .unboundAC
  | 13 => .unboundAD
  | 14 => .unboundAE
  | _ => .unboundAF

/-- Row B_ of the opcode map (R113), by the low hex digit. -/
def decodeRowB (lo : Nat) : Instr :=
  match lo with
  | 0 => .unboundB0
  | 1 => .unboundB1
  | 2 => .unboundB2
  | 3 => .unboundB3
  | 4 => .unboundB4
  | 5 => .unboundB5
  | 6 => .unboundB6
  | 7 => .unboundB7
  | 8 => .unboundB8
  | 9 => .unboundB9
  | 10 => .unboundBA
  | 11 => .unboundBB
  | 12 => .unboundBC
  | 13 => .unboundBD
  | 14 => .unboundBE
  | _ => .unboundBF

/-- Row C_ of the opcode map (R113), by the low hex digit. -/
def decodeRowC (lo : Nat) : Instr :=
  match lo with
  | 0 => .unboundC0
  | 1 => .unboundC1
  | 2 => .unboundC2
  | 3 => .unboundC3
  | 4 => .unboundC4
  | 5 => .unboundC5
  | 6 => .unboundC6
  | 7 => .unboundC7
  | 8 => .unboundC8
  | 9 => .unboundC9
  | 10 => .unboundCA
  | 11 => .unboundCB
  | 12 => .unboundCC
  | 13 => .unboundCD
  | 14 => .unboundCE
  | _ => .unboundCF

/-- Row D_ of the opcode map (R113), by the low hex digit. -/
def decodeRowD (lo : Nat) : Instr :=
  match lo with
  | 0 => .unboundD0
  | 1 => .unboundD1
  | 2 => .unboundD2
  | 3 => .unboundD3
  | 4 => .unboundD4
  | 5 => .unboundD5
  | 6 => .unboundD6
  | 7 => .unboundD7
  | 8 => .unboundD8
  | 9 => .unboundD9
  | 10 => .unboundDA
  | 11 => .unboundDB
  | 12 => .unboundDC
  | 13 => .unboundDD
  | 14 => .unboundDE
  | _ => .unboundDF

/-- Row E_ of the opcode map (R113), by the low hex digit; `o1` and `o2` are the first and the second operand byte. -/
def decodeRowE (lo : Nat) (o1 : Byte) : Instr :=
  match lo with
  | 0 => .ldhA8A o1
  | 1 => .unboundE1
  | 2 => .unboundE2
  | 3 => .unboundE3
  | 4 => .unboundE4
  | 5 => .unboundE5
  | 6 => .unboundE6
  | 7 => .unboundE7
  | 8 => .unboundE8
  | 9 => .unboundE9
  | 10 => .unboundEA
  | 11 => .unboundEB
  | 12 => .unboundEC
  | 13 => .unboundED
  | 14 => .unboundEE
  | _ => .unboundEF

/-- Row F_ of the opcode map (R113), by the low hex digit; `o1` and `o2` are the first and the second operand byte. -/
def decodeRowF (lo : Nat) (o1 : Byte) : Instr :=
  match lo with
  | 0 => .ldhAA8 o1
  | 1 => .unboundF1
  | 2 => .unboundF2
  | 3 => .unboundF3
  | 4 => .unboundF4
  | 5 => .unboundF5
  | 6 => .unboundF6
  | 7 => .unboundF7
  | 8 => .unboundF8
  | 9 => .unboundF9
  | 10 => .unboundFA
  | 11 => .unboundFB
  | 12 => .unboundFC
  | 13 => .unboundFD
  | 14 => .unboundFE
  | _ => .unboundFF

/-- The instruction that an opcode byte and its operand bytes stand for (R113). It is total: every byte is bound or
unbound (R112). An operand byte the format does not have is not looked at. -/
def decodeInstr (op o1 o2 : Byte) : Instr :=
  match op.toNat / 16 with
  | 0 => decodeRow0 (op.toNat % 16) o1 o2
  | 1 => decodeRow1 (op.toNat % 16) o1 o2
  | 2 => decodeRow2 (op.toNat % 16) o1 o2
  | 3 => decodeRow3 (op.toNat % 16) o1 o2
  | 4 => decodeRow4 (op.toNat % 16)
  | 5 => decodeRow5 (op.toNat % 16)
  | 6 => decodeRow6 (op.toNat % 16)
  | 7 => decodeRow7 (op.toNat % 16)
  | 8 => decodeRow8 (op.toNat % 16)
  | 9 => decodeRow9 (op.toNat % 16)
  | 10 => decodeRowA (op.toNat % 16)
  | 11 => decodeRowB (op.toNat % 16)
  | 12 => decodeRowC (op.toNat % 16)
  | 13 => decodeRowD (op.toNat % 16)
  | 14 => decodeRowE (op.toNat % 16) o1
  | _ => decodeRowF (op.toNat % 16) o1

/-- The instruction of an opcode byte and the list of its operand bytes. -/
def decodeOperands (op : Byte) (operands : List Byte) : Instr :=
  decodeInstr op (operands.getD 0 0x00#8) (operands.getD 1 0x00#8)

/-- Why a list of bytes gives no instruction: it is empty, or it ends before the opcode byte's operands do. No byte is
refused for its value (R112). -/
inductive DecodeError where
  | noBytes
  | truncated (op : Byte)
deriving DecidableEq, Repr

/-- Decode one instruction from the front of a list of bytes, and give back the bytes after it. -/
def decode (stopLength : StopLength) : List Byte → Except DecodeError (Instr × List Byte)
  | [] => .error .noBytes
  | op :: rest =>
    if rest.length < operandCount stopLength op then .error (.truncated op)
    else .ok (decodeOperands op (rest.take (operandCount stopLength op)), rest.drop (operandCount stopLength op))

/-! ### The encoder -/

/-- The bytes of an instruction: its opcode byte, its operand bytes and, for STOP when STOP_LENGTH is 2, the byte the
CPU fetches and discards, written here as 0x00 (46_misc.md R241). -/
def encode (stopLength : StopLength) (i : Instr) : List Byte :=
  i.opcode :: i.form.operandBytes ++
    match i.form, stopLength with
    | .stop, .two => [0x00#8]
    | _, _ => []

/-! ### The opcode table's words -/

/-- The first three bytes, the longest instruction, of the word `w` of `nbits` bits: bit 0 is the least significant bit
of the first byte, and every bit from `nbits` on is 0. -/
def tableWordBytes (nbits w : Nat) : List Byte :=
  let v := w % 2 ^ nbits
  [BitVec.ofNat 8 v, BitVec.ofNat 8 (v / 0x100), BitVec.ofNat 8 (v / 0x10000)]

/-- The instruction the decoder reads from a word of the opcode table, with STOP_LENGTH at its default. -/
def decodeTableWord (nbits w : Nat) : Option Instr :=
  match decode .one (tableWordBytes nbits w) with
  | .ok (i, _) => some i
  | .error _ => none

end Sys2Proof
end

