-- ==== Sys2Proof/Machine/State.lean ====
section
/-! DEFINITION. State.lean: every piece of state the spec gives the machine (10_state.md), as plain data; the launch
parameters (00_scope.md R6), constants of a run; and how a step can stop (60_exceptions.md R301 to R303). -/

namespace Sys2Proof.Machine

/-- A byte store: its bytes by index, indexes strictly rising, no entry equal to what an unlisted index reads as
(`Memory.wf` in Machine/Ops.lean). -/
abbrev Memory := List Host.Cell

/-- The four flags, bits 7 to 4 of F (10_state.md R22). Bits 3 to 0 of F have no storage: they always read 0 (R23), and
`State.f` computes the byte (log entry 10). -/
structure Flags where
  z : Bool
  n : Bool
  h : Bool
  c : Bool
deriving DecidableEq, Repr

/-- The PPU's four modes (10_state.md R32, 60_exceptions.md R310). -/
inductive PpuMode where
  | oamScan | vramAccess | hblank | vblank
deriving DecidableEq, Repr

/-- The PPU's state (10_state.md R32): the mode, the cycles since it was entered, the visible line (144 in VBLANK), and
the cumulative cycle count since power-on. -/
structure Ppu where
  mode : PpuMode
  modeClock : Nat
  line : Nat
  total : Nat
deriving DecidableEq, Repr

/-- The fault codes, with the value each records (60_exceptions.md R301). -/
inductive FaultCode where
  /-- A cartridge ROM read at an offset not below ROM_SIZE (20_memory.md R56). -/
  | cartRange (addr : Word)
  /-- An address without a decoder entry: raised by no rule (R301; log entry 7). -/
  | noHandler
  /-- An unreachable PPU mode: raised by no rule (R301; log entry 7). -/
  | ppuUnreachable
deriving DecidableEq, Repr

/-- The reasons of a refusal that the spec gives (60_exceptions.md R303). -/
inductive RefusalReason where
  | unboundOpcode (op : Byte)
deriving DecidableEq, Repr

/-- The mark `halted_by` (10_state.md R33). -/
inductive HaltMark where
  | none
  | fault (code : FaultCode)
  | refused (reason : RefusalReason)
deriving DecidableEq, Repr

/-- The parameter UNBOUND_POLICY (30_encoding.md R110). -/
inductive UnboundPolicy where
  | nop | refuse
deriving DecidableEq, Repr

/-- One row of a per-opcode CYCLE_COST: the cost of an opcode, and its cost when a conditional jump is taken
(70_reset_and_hazards.md R363). -/
structure CostRow where
  opcode : Byte
  cost : Nat
  takenCost : Nat
deriving DecidableEq, Repr

/-- The parameter CYCLE_COST: one number for every CPU step, or a table by opcode and, for JR cc, jump taken
(70_reset_and_hazards.md R363). -/
inductive CycleCost where
  | perStep (cycles : Nat)
  | perOpcode (rows : List CostRow)
deriving DecidableEq, Repr

/-- What the launch fixes (00_scope.md R6, 10_state.md R31, 60_exceptions.md R316). No step changes any of it. -/
structure Launch where
  bootRom : Memory
  rom : Memory
  romSize : Nat
  /-- Looked up once from ROM[0x149] (20_memory.md R70; log entry 13). -/
  extRamSize : Nat
  unboundPolicy : UnboundPolicy
  stopLength : StopLength
  cycleCost : CycleCost
  vramBlocking : Bool
deriving DecidableEq, Repr

/-- The whole machine. -/
structure State where
  /-- The byte registers (10_state.md R20). -/
  a : Byte
  b : Byte
  c : Byte
  d : Byte
  e : Byte
  h : Byte
  l : Byte
  /-- F, as its four flags (R22). -/
  flags : Flags
  /-- The stack pointer (R26). -/
  sp : Word
  /-- The program counter (R27). -/
  pc : Word
  /-- The interrupt-enable byte (R28). -/
  ie : Byte
  /-- The boot-ROM-disabled latch BOOT_OFF (R29). -/
  bootOff : Bool
  /-- The RAM stores (R31). -/
  extRam : Memory
  vram : Memory
  wram : Memory
  oam : Memory
  hram : Memory
  /-- The PPU (R32). -/
  ppu : Ppu
  /-- What the launch fixed: ROM, BOOT_ROM and the parameters. -/
  launch : Launch
  /-- The mark `halted_by` (R33). -/
  haltedBy : HaltMark
  /-- The MODEL's own counter of the `draw()` bytes handed out (log entry 5). -/
  draws : Nat
deriving DecidableEq, Repr

/-- Why the machine stops with a fault (60_exceptions.md R301, R302). Each carries the stopped machine, whose mark
`haltedBy` holds the fault: registers and memory as they were at the faulting read, PC after the last byte fetched, the
PPU not advanced (R307). All are SAFE: the spec stops there too (log entries 6 and 7). -/
inductive Fault where
  /-- Raised by any opcode fetch, operand fetch or data read of cartridge ROM at or beyond ROM_SIZE, and given again by
  every later step of the machine so stopped. Safe: 20_memory.md R56 stops there. -/
  | cartRange (addr : Word) (stopped : State)
  /-- Raised by no meaning (the decoder is total, 20_memory.md R52); given only by a step of a state whose mark already
  holds it. Safe. -/
  | noHandler (stopped : State)
  /-- Raised by no meaning (the mode has four values, 10_state.md R32); given only by a step of a state whose mark
  already holds it. Safe. -/
  | ppuUnreachable (stopped : State)
deriving DecidableEq, Repr

/-- Why the model gives a step no meaning. -/
inductive Refusal where
  /-- An arm of `exec` whose instruction is not modelled yet, by the table's mnemonic. Safe. No arm uses it. -/
  | notModelled (mnemonic : String)
  /-- UNBOUND_OPCODE(op), raised by an unbound opcode only when UNBOUND_POLICY is refuse (60_exceptions.md R303), with
  the stopped machine, and given again by every later step of it. Safe: the spec refuses there too (log entry 6). -/
  | unboundOpcode (op : Byte) (stopped : State)
deriving DecidableEq, Repr

/-- The outcome of a step or of an instruction's meaning. -/
abbrev Out := Host.Outcome State Fault Refusal

/-- The PPU at power-on (70_reset_and_hazards.md R356). -/
def Ppu.powerOn : Ppu := { mode := .oamScan, modeClock := 0, line := 0, total := 0 }

/-- A launch that supplies no program: nothing placed in BOOT_ROM and ROM, a full ROM window, header byte 0x00 and so no
external RAM, every parameter at the default of 00_scope.md R6. DESIGN CHOICE, unsafe (log entries 4 and 9). -/
def Launch.empty : Launch :=
  { bootRom := [], rom := [], romSize := Config.resetRomSize, extRamSize := 0, unboundPolicy := .nop,
    stopLength := .one, cycleCost := .perStep 1, vramBlocking := false }

/-- The machine at power-on (70_reset_and_hazards.md R350 to R357): PC 0x0000 (R350), BOOT_OFF false (R354), the PPU at
power-on (R356), `halted_by` none (R357). The registers, flags, SP, IE and RAM bytes that the spec draws at launch
(R351 to R353, R355) are 0 here: DESIGN CHOICE, unsafe (log entries 2, 3 and 4). `launch` (Machine/Launch.lean) takes
the drawn values and the ROMs as arguments. -/
def State.reset : State :=
  { a := 0x00#8, b := 0x00#8, c := 0x00#8, d := 0x00#8, e := 0x00#8, h := 0x00#8, l := 0x00#8,
    flags := { z := false, n := false, h := false, c := false },
    sp := 0x0000#16, pc := 0x0000#16, ie := 0x00#8, bootOff := false,
    extRam := [], vram := [], wram := [], oam := [], hram := [],
    ppu := Ppu.powerOn, launch := Launch.empty, haltedBy := .none, draws := 0 }

end Sys2Proof.Machine
end

