-- ==== Sys2Proof/Machine/Ops.lean ====
section
/-! DEFINITION. Ops.lean: the stores, the address decoder (20_memory.md), and how a step stops (60_exceptions.md R302,
R303). The hardware takes no exception and returns from none (R300, R305, R308): `faultStop` and `refuseStop` are the
one shared operation that ends a step in the way the spec describes, and there is no return beside it. -/

namespace Sys2Proof.Machine

/-! ### A byte store -/

/-- The byte at an index. -/
def Memory.read : Memory → Nat → Byte
  | [], _ => Config.unlistedByte
  | (k, w) :: m, i => if i = k then w else Memory.read m i

/-- Store a byte at an index, keeping the canonical form: storing what an unlisted index reads as removes the entry. -/
def Memory.write : Memory → Nat → Byte → Memory
  | [], i, v => if v = Config.unlistedByte then [] else [(i, v)]
  | (k, w) :: m, i, v =>
    if i < k then (if v = Config.unlistedByte then (k, w) :: m else (i, v) :: (k, w) :: m)
    else if i = k then (if v = Config.unlistedByte then m else (i, v) :: m)
    else (k, w) :: Memory.write m i v

/-- Indexes strictly rising from `lo` on, and no entry equal to what an unlisted index reads as. -/
def Memory.wfFrom : Nat → Memory → Bool
  | _, [] => true
  | lo, (k, w) :: m => decide (lo ≤ k) && (w != Config.unlistedByte) && Memory.wfFrom (k + 1) m

/-- The canonical form of a store. -/
def Memory.wf (m : Memory) : Bool := Memory.wfFrom 0 m

/-- No entry at or beyond the store's size. -/
def Memory.fits (size : Nat) : Memory → Bool
  | [] => true
  | (k, _) :: m => decide (k < size) && Memory.fits size m

/-- A store of `size` bytes holding `bytes` from index `i` on (what lies beyond the size is left out). -/
def Memory.fill (size : Nat) : Memory → Nat → List Byte → Memory
  | m, _, [] => m
  | m, i, v :: bytes => Memory.fill size (if i < size then Memory.write m i v else m) (i + 1) bytes

/-- A store of `size` bytes holding `bytes` from index 0 on. -/
def Memory.ofBytes (size : Nat) (bytes : List Byte) : Memory := Memory.fill size [] 0 bytes

/-! ### The address map -/

/-- The regions of the address map (20_memory.md R53). -/
inductive Region where
  | bootOverlay | cartRom | vram | extRam | wram | echo | oam | unusable | io | hram | ie
deriving DecidableEq, Repr

/-- The region of each of the 65,536 addresses (R52, R53; the echo has 0xF000 to 0xFDFF, 90_conflicts.md C1). -/
def region (addr : Word) : Region :=
  if addr.toNat ≤ 0x00FF then .bootOverlay
  else if addr.toNat ≤ 0x7FFF then .cartRom
  else if addr.toNat ≤ 0x9FFF then .vram
  else if addr.toNat ≤ 0xBFFF then .extRam
  else if addr.toNat ≤ 0xDFFF then .wram
  else if addr.toNat ≤ 0xFDFF then .echo
  else if addr.toNat ≤ 0xFE9F then .oam
  else if addr.toNat ≤ 0xFEFF then .unusable
  else if addr.toNat ≤ 0xFF7F then .io
  else if addr.toNat ≤ 0xFFFE then .hram
  else .ie

/-- The address of the WRAM byte that an echo address aliases; any other address is itself (R62). -/
def unecho (addr : Word) : Word := if region addr = .echo then addr - 0x2000#16 else addr

/-- What the read handler of an address gives: a byte, a `draw()`, or the fault of a read beyond the ROM. -/
inductive BusRead where
  | byte (v : Byte)
  | draw
  | beyondRom
deriving DecidableEq, Repr

/-- `CartRead` of the no-mapper cartridge (R56). -/
def cartRead (s : State) (addr : Word) : BusRead :=
  if addr.toNat < s.launch.romSize then .byte (Memory.read s.launch.rom addr.toNat) else .beyondRom

/-- VRAM reads are blocked (R59). -/
def vramBlocked (s : State) : Bool := s.launch.vramBlocking && decide (s.ppu.mode = .vramAccess)

/-- The read rule of every address (R54 to R68): the model's read of one byte. It changes nothing (R74). -/
def busRead (s : State) (addr : Word) : BusRead :=
  match region addr with
  | .bootOverlay => if s.bootOff then cartRead s addr else .byte (Memory.read s.launch.bootRom addr.toNat)
  | .cartRom => cartRead s addr
  | .vram => if vramBlocked s then .byte 0xFF#8 else .byte (Memory.read s.vram (addr.toNat - 0x8000))
  | .extRam =>
    if addr.toNat - 0xA000 < s.launch.extRamSize then .byte (Memory.read s.extRam (addr.toNat - 0xA000)) else .draw
  | .wram => .byte (Memory.read s.wram (addr.toNat - 0xC000))
  | .echo => .byte (Memory.read s.wram (addr.toNat - 0xE000))
  | .oam => .byte (Memory.read s.oam (addr.toNat - 0xFE00))
  | .unusable => .draw
  | .io => .draw
  | .hram => .byte (Memory.read s.hram (addr.toNat - 0xFF80))
  | .ie => .byte s.ie

/-- `MemWrite(addr, 1, v)`: the write rule of every address (R57 to R68). It never faults. -/
def memWrite (s : State) (addr : Word) (v : Byte) : State :=
  match region addr with
  | .bootOverlay => s
  | .cartRom => s
  | .vram => { s with vram := Memory.write s.vram (addr.toNat - 0x8000) v }
  | .extRam =>
    if addr.toNat - 0xA000 < s.launch.extRamSize then
      { s with extRam := Memory.write s.extRam (addr.toNat - 0xA000) v }
    else s
  | .wram => { s with wram := Memory.write s.wram (addr.toNat - 0xC000) v }
  | .echo => { s with wram := Memory.write s.wram (addr.toNat - 0xE000) v }
  | .oam => { s with oam := Memory.write s.oam (addr.toNat - 0xFE00) v }
  | .unusable => s
  | .io => if addr = 0xFF50#16 then { s with bootOff := true } else s
  | .hram => { s with hram := Memory.write s.hram (addr.toNat - 0xFF80) v }
  | .ie => { s with ie := v }

/-! ### How a step stops -/

/-- The fault outcome of a machine stopped by a fault code. -/
def faultOf (code : FaultCode) (stopped : State) : Fault :=
  match code with
  | .cartRange addr => .cartRange addr stopped
  | .noHandler => .noHandler stopped
  | .ppuUnreachable => .ppuUnreachable stopped

/-- `raise Fault(code)`: the step ends here, what it did so far stands, and the mark is set (60_exceptions.md R302). -/
def faultStop (code : FaultCode) (s : State) : Out :=
  .fault (faultOf code { s with haltedBy := .fault code })

/-- `refuse(UNBOUND_OPCODE(op))`: the step ends here and the mark is set (60_exceptions.md R303). -/
def refuseStop (op : Byte) (s : State) : Out :=
  .refused (.unboundOpcode op { s with haltedBy := .refused (.unboundOpcode op) })

/-! ### Reads that a step makes -/

/-- `MemRead(addr, 1)` inside a step: `k` gets the byte read. A `draw()` takes the next free byte (00_scope.md R12; log
entry 5); a read beyond the ROM ends the step (20_memory.md R56). -/
def memRead (s : State) (addr : Word) (k : Byte → State → Out) : Out :=
  match busRead s addr with
  | .byte v => k v s
  | .draw => k (Config.drawByte s.draws) { s with draws := s.draws + 1 }
  | .beyondRom => faultStop (.cartRange addr) s

/-- `Fetch8()`: read the byte at PC and then increment PC modulo 2^16 (00_scope.md R11). -/
def fetch8 (s : State) (k : Byte → State → Out) : Out :=
  memRead s s.pc fun v t => k v { t with pc := t.pc + 1#16 }

end Sys2Proof.Machine
end

