-- ==== Sys2Proof/Machine/Operands.lean ====
section
/-! DEFINITION. Operands.lean: reading and writing the registers by name (00_scope.md R9, 10_state.md R20 to R24), and
the operand forms of the instructions (30_encoding.md R102 to R106). Every register has one home in the state; pairs
and the byte F are views of it. -/

namespace Sys2Proof.Machine

/-- `x[r]` (R9). -/
def State.reg (s : State) : Reg8 → Byte
  | .b => s.b | .c => s.c | .d => s.d | .e => s.e | .h => s.h | .l => s.l | .a => s.a

/-- `x[r] <- v` (R9): the other byte of the pair is unchanged (10_state.md R21). -/
def State.setReg (s : State) (r : Reg8) (v : Byte) : State :=
  match r with
  | .b => { s with b := v }
  | .c => { s with c := v }
  | .d => { s with d := v }
  | .e => { s with e := v }
  | .h => { s with h := v }
  | .l => { s with l := v }
  | .a => { s with a := v }

/-- `x[rr]`, the first-named byte being bits 15 to 8 (10_state.md R21). -/
def State.pair (s : State) : Pair → Word
  | .bc => wordOf s.b s.c
  | .de => wordOf s.d s.e
  | .hl => wordOf s.h s.l
  | .sp => s.sp

/-- `x[rr] <- v`: a pair of byte registers writes both its bytes (10_state.md R21). -/
def State.setPair (s : State) (p : Pair) (v : Word) : State :=
  match p with
  | .bc => { s with b := highByte v, c := lowByte v }
  | .de => { s with d := highByte v, e := lowByte v }
  | .hl => { s with h := highByte v, l := lowByte v }
  | .sp => { s with sp := v }

/-- The flag byte, bits 7 to 4 Z, N, H, C and bits 3 to 0 always 0 (10_state.md R22, R23). -/
def Flags.byte (f : Flags) : Byte :=
  BitVec.ofBool f.z ++ BitVec.ofBool f.n ++ BitVec.ofBool f.h ++ BitVec.ofBool f.c ++ 0b0000#4

/-- The flags that a byte written to F sets: its bits 7 to 4 (10_state.md R22; bits 3 to 0 are not stored, R23). -/
def Flags.ofByte (v : Byte) : Flags :=
  { z := v.getLsbD 7, n := v.getLsbD 6, h := v.getLsbD 5, c := v.getLsbD 4 }

/-- `x[F]` (R9). -/
def State.f (s : State) : Byte := s.flags.byte

/-- `x[F] <- v` (R9); no instruction writes F as a whole (10_state.md R23). -/
def State.setF (s : State) (v : Byte) : State := { s with flags := Flags.ofByte v }

/-- `x[AF]` (10_state.md R21). -/
def State.af (s : State) : Word := wordOf s.a s.f

/-- `x[AF] <- v` (10_state.md R21, R23); no instruction writes it. -/
def State.setAf (s : State) (v : Word) : State := { s with a := highByte v, flags := Flags.ofByte (lowByte v) }

/-- Write the flags an instruction computed (10_state.md R24). -/
def State.setFlags (s : State) (f : Flags) : State := { s with flags := f }

/-- `cond(cc)` (44_jumps.md R210). -/
def condHolds (f : Flags) : Cond → Bool
  | .nz => !f.z
  | .z => f.z
  | .nc => !f.c
  | .c => f.c

/-- The address an indirect operand accesses (30_encoding.md R105). -/
def State.indirect (s : State) : Indirect → Word
  | .bc => s.pair .bc
  | .de => s.pair .de
  | .hli => s.pair .hl
  | .hld => s.pair .hl

/-- After the access at `addr`: (HL+) leaves HL at `addr + 1` and (HL-) at `addr - 1`, modulo 2^16; (BC) and (DE) change
nothing (30_encoding.md R105, 40_loads.md R132, R133). -/
def State.afterIndirect (s : State) (i : Indirect) (addr : Word) : State :=
  match i with
  | .bc => s
  | .de => s
  | .hli => s.setPair .hl (addr + 1#16)
  | .hld => s.setPair .hl (addr - 1#16)

/-- The address `0xFF00 + zext_16(a8)` of LDH (30_encoding.md R106). -/
def zeroPage (o : Byte) : Word := 0xFF00#16 + o.setWidth 16

/-- The target of a taken relative jump from `pc`, the address after the operand byte, modulo 2^16 (44_jumps.md R211).
The offset is the signed integer the operand byte stands for (30_encoding.md R106; log entry 11). -/
def jumpTarget (pc : Word) (e : Int) : Word := pc + BitVec.ofInt 16 e

end Sys2Proof.Machine
end

