-- ==== Sys2Proof/Machine/Flags.lean ====
section
/-! DEFINITION. Flags.lean: every result and flag computation of the instruction set, each a function of the operand
values read before anything is written (10_state.md R24), computed exactly and then narrowed (43_add.md R200). -/

namespace Sys2Proof.Machine

/-- The result byte of an operation and the flags it leaves. -/
structure Alu where
  res : Byte
  flags : Flags
deriving DecidableEq, Repr

/-- `inc8(o)`: Z, N and H written, C kept from `f` (41_inc_dec.md R170). -/
def inc8 (f : Flags) (o : Byte) : Alu :=
  let res := o + 1#8
  { res := res, flags := { f with z := decide (res = 0#8), n := false, h := decide (o &&& 0x0F#8 = 0x0F#8) } }

/-- `dec8(o)`: Z, N and H written, C kept from `f` (41_inc_dec.md R170). -/
def dec8 (f : Flags) (o : Byte) : Alu :=
  let res := o - 1#8
  { res := res, flags := { f with z := decide (res = 0#8), n := true, h := decide (o &&& 0x0F#8 = 0x00#8) } }

/-- `add8(a, b, cin)`: all four flags written (43_add.md R201). -/
def add8 (a b : Byte) (cin : Bool) : Alu :=
  let sum := a.toNat + b.toNat + cin.toNat
  let res := BitVec.ofNat 8 sum
  { res := res
    flags :=
      { z := decide (res = 0#8)
        n := false
        h := decide ((a &&& 0x0F#8).toNat + (b &&& 0x0F#8).toNat + cin.toNat > 0x0F)
        c := decide (sum > 0xFF) } }

/-- The sum of ADD HL,rr (43_add.md R202). -/
def addHlResult (hl v : Word) : Word := BitVec.ofNat 16 (hl.toNat + v.toNat)

/-- The flags of ADD HL,rr: N cleared, H the carry out of bit 11, C the carry out of bit 15, Z kept (43_add.md R202). -/
def addHlFlags (f : Flags) (hl v : Word) : Flags :=
  { f with
    n := false
    h := decide ((hl &&& 0x0FFF#16).toNat + (v &&& 0x0FFF#16).toNat > 0x0FFF)
    c := decide (hl.toNat + v.toNat > 0xFFFF) }

/-- The flags of the four rotates: Z, N and H cleared, C the bit moved out (42_rotates.md R190 to R193). -/
def rotateFlags (out : Bool) : Flags := { z := false, n := false, h := false, c := out }

/-- Rotate left, `fill` into bit 0, bit 7 out (42_rotates.md R190, R192). -/
def rotateLeft (a : Byte) (fill : Bool) : Alu :=
  { res := (a <<< 1) ||| (BitVec.ofBool fill).setWidth 8, flags := rotateFlags (a.getLsbD 7) }

/-- Rotate right, `fill` into bit 7, bit 0 out (42_rotates.md R191, R193). -/
def rotateRight (a : Byte) (fill : Bool) : Alu :=
  { res := (a >>> 1) ||| ((BitVec.ofBool fill).setWidth 8 <<< 7), flags := rotateFlags (a.getLsbD 0) }

/-- DAA after an add: 0x60 when C is set or A is above 0x99 (and C is then set), then 0x06 when H is set or the low
nibble is above 9 (45_bcd_flags.md R220). The result and the C it leaves. -/
def daaAfterAdd (f : Flags) (a : Byte) : Byte × Bool :=
  let high := f.c || decide (a.toNat > 0x99)
  let a1 := if high then a + 0x60#8 else a
  let a2 := if f.h || decide ((a1 &&& 0x0F#8).toNat > 0x09) then a1 + 0x06#8 else a1
  (a2, high)

/-- DAA after a subtract: 0x60 off when C is set, then 0x06 off when H is set; C is kept (45_bcd_flags.md R220). -/
def daaAfterSub (f : Flags) (a : Byte) : Byte × Bool :=
  let a1 := if f.c then a - 0x60#8 else a
  let a2 := if f.h then a1 - 0x06#8 else a1
  (a2, f.c)

/-- DAA: Z written, H cleared, C written, N kept (45_bcd_flags.md R220). -/
def daa (f : Flags) (a : Byte) : Alu :=
  let r := if f.n then daaAfterSub f a else daaAfterAdd f a
  { res := r.1, flags := { f with z := decide (r.1 = 0#8), h := false, c := r.2 } }

/-- The flags of CPL: N and H set, Z and C kept (45_bcd_flags.md R221). -/
def cplFlags (f : Flags) : Flags := { f with n := true, h := true }

/-- The flags of SCF: C set, N and H cleared, Z kept (45_bcd_flags.md R222). -/
def scfFlags (f : Flags) : Flags := { f with n := false, h := false, c := true }

/-- The flags of CCF: C complemented, N and H cleared, Z kept (45_bcd_flags.md R223). -/
def ccfFlags (f : Flags) : Flags := { f with n := false, h := false, c := !f.c }

end Sys2Proof.Machine
end

