-- ==== Sys2Proof/Machine/Add.lean ====
section
/-! DEFINITION. Add.lean: ADD HL,rr, ADD and ADC (43_add.md R200 to R206). -/

namespace Sys2Proof.Machine

/-- R202: both operands are read before HL is written; Z is kept. -/
def addHl (p : Pair) (s : State) : Out :=
  .next ((s.setPair .hl (addHlResult (s.pair .hl) (s.pair p))).setFlags
    (addHlFlags s.flags (s.pair .hl) (s.pair p)))

/-- A and F after adding `b` and the carry-in to A (R201). -/
def addToA (b : Byte) (cin : Bool) (s : State) : State :=
  (s.setReg .a (add8 s.a b cin).res).setFlags (add8 s.a b cin).flags

/-- R203. -/
def addReg (r : Reg8) (s : State) : Out := .next (addToA (s.reg r) false s)

/-- R204: a read that faults leaves A and F unchanged. -/
def addMem (s : State) : Out := memRead s (s.pair .hl) fun v t => .next (addToA v false t)

/-- R205: the carry-in is the carry flag, 0 or 1. -/
def adcReg (r : Reg8) (s : State) : Out := .next (addToA (s.reg r) s.flags.c s)

/-- R206. -/
def adcMem (s : State) : Out := memRead s (s.pair .hl) fun v t => .next (addToA v t.flags.c t)

/-- ADD HL,BC (R202). -/
def execAddHlBc (s : State) : Out := addHl .bc s

/-- ADD HL,DE (R202). -/
def execAddHlDe (s : State) : Out := addHl .de s

/-- ADD HL,HL (R202). -/
def execAddHlHl (s : State) : Out := addHl .hl s

/-- ADD HL,SP (R202). -/
def execAddHlSp (s : State) : Out := addHl .sp s

/-- ADD A,B (R203). -/
def execAddAB (s : State) : Out := addReg .b s

/-- ADD A,C (R203). -/
def execAddAC (s : State) : Out := addReg .c s

/-- ADD A,D (R203). -/
def execAddAD (s : State) : Out := addReg .d s

/-- ADD A,E (R203). -/
def execAddAE (s : State) : Out := addReg .e s

/-- ADD A,H (R203). -/
def execAddAH (s : State) : Out := addReg .h s

/-- ADD A,L (R203). -/
def execAddAL (s : State) : Out := addReg .l s

/-- ADD A,(HL) (R204). -/
def execAddAIndHl (s : State) : Out := addMem s

/-- ADD A,A (R203). -/
def execAddAA (s : State) : Out := addReg .a s

/-- ADC A,B (R205). -/
def execAdcAB (s : State) : Out := adcReg .b s

/-- ADC A,C (R205). -/
def execAdcAC (s : State) : Out := adcReg .c s

/-- ADC A,D (R205). -/
def execAdcAD (s : State) : Out := adcReg .d s

/-- ADC A,E (R205). -/
def execAdcAE (s : State) : Out := adcReg .e s

/-- ADC A,H (R205). -/
def execAdcAH (s : State) : Out := adcReg .h s

/-- ADC A,L (R205). -/
def execAdcAL (s : State) : Out := adcReg .l s

/-- ADC A,(HL) (R206). -/
def execAdcAIndHl (s : State) : Out := adcMem s

/-- ADC A,A (R205). -/
def execAdcAA (s : State) : Out := adcReg .a s

end Sys2Proof.Machine
end

