-- ==== Sys2Proof/Machine/BcdFlags.lean ====
section
/-! DEFINITION. BcdFlags.lean: DAA, CPL, SCF and CCF (45_bcd_flags.md R220 to R223). -/

namespace Sys2Proof.Machine

/-- DAA (R220). -/
def execDaa (s : State) : Out := .next ((s.setReg .a (daa s.flags s.a).res).setFlags (daa s.flags s.a).flags)

/-- CPL (R221). -/
def execCpl (s : State) : Out := .next ((s.setReg .a (~~~s.a)).setFlags (cplFlags s.flags))

/-- SCF (R222). -/
def execScf (s : State) : Out := .next (s.setFlags (scfFlags s.flags))

/-- CCF (R223). -/
def execCcf (s : State) : Out := .next (s.setFlags (ccfFlags s.flags))

end Sys2Proof.Machine
end

