-- ==== Sys2Proof/Machine/IncDec.lean ====
section
/-! DEFINITION. IncDec.lean: increment and decrement (41_inc_dec.md R170 to R176). -/

namespace Sys2Proof.Machine

/-- R171: `x[rr] <- (x[rr] + 1) mod 2^16`, no flag. -/
def incPair (p : Pair) (s : State) : Out := .next (s.setPair p (s.pair p + 1#16))

/-- R172: `x[rr] <- (x[rr] - 1) mod 2^16`, no flag. -/
def decPair (p : Pair) (s : State) : Out := .next (s.setPair p (s.pair p - 1#16))

/-- R173. -/
def incReg (r : Reg8) (s : State) : Out :=
  .next ((s.setReg r (inc8 s.flags (s.reg r)).res).setFlags (inc8 s.flags (s.reg r)).flags)

/-- R175. -/
def decReg (r : Reg8) (s : State) : Out :=
  .next ((s.setReg r (dec8 s.flags (s.reg r)).res).setFlags (dec8 s.flags (s.reg r)).flags)

/-- R174: read, write back, then the flags; a read that faults writes nothing. -/
def incMem (s : State) : Out :=
  memRead s (s.pair .hl) fun v t =>
    .next ((memWrite t (s.pair .hl) (inc8 s.flags v).res).setFlags (inc8 s.flags v).flags)

/-- R176: read, write back, then the flags; a read that faults writes nothing. -/
def decMem (s : State) : Out :=
  memRead s (s.pair .hl) fun v t =>
    .next ((memWrite t (s.pair .hl) (dec8 s.flags v).res).setFlags (dec8 s.flags v).flags)

/-- INC BC (R171). -/
def execIncBc (s : State) : Out := incPair .bc s

/-- INC B (R173). -/
def execIncB (s : State) : Out := incReg .b s

/-- DEC B (R175). -/
def execDecB (s : State) : Out := decReg .b s

/-- DEC BC (R172). -/
def execDecBc (s : State) : Out := decPair .bc s

/-- INC C (R173). -/
def execIncC (s : State) : Out := incReg .c s

/-- DEC C (R175). -/
def execDecC (s : State) : Out := decReg .c s

/-- INC DE (R171). -/
def execIncDe (s : State) : Out := incPair .de s

/-- INC D (R173). -/
def execIncD (s : State) : Out := incReg .d s

/-- DEC D (R175). -/
def execDecD (s : State) : Out := decReg .d s

/-- DEC DE (R172). -/
def execDecDe (s : State) : Out := decPair .de s

/-- INC E (R173). -/
def execIncE (s : State) : Out := incReg .e s

/-- DEC E (R175). -/
def execDecE (s : State) : Out := decReg .e s

/-- INC HL (R171). -/
def execIncHl (s : State) : Out := incPair .hl s

/-- INC H (R173). -/
def execIncH (s : State) : Out := incReg .h s

/-- DEC H (R175). -/
def execDecH (s : State) : Out := decReg .h s

/-- DEC HL (R172). -/
def execDecHl (s : State) : Out := decPair .hl s

/-- INC L (R173). -/
def execIncL (s : State) : Out := incReg .l s

/-- DEC L (R175). -/
def execDecL (s : State) : Out := decReg .l s

/-- INC SP (R171). -/
def execIncSp (s : State) : Out := incPair .sp s

/-- INC (HL) (R174). -/
def execIncIndHl (s : State) : Out := incMem s

/-- DEC (HL) (R176). -/
def execDecIndHl (s : State) : Out := decMem s

/-- DEC SP (R172). -/
def execDecSp (s : State) : Out := decPair .sp s

/-- INC A (R173). -/
def execIncA (s : State) : Out := incReg .a s

/-- DEC A (R175). -/
def execDecA (s : State) : Out := decReg .a s

end Sys2Proof.Machine
end

