-- ==== Sys2Proof/Machine/Jumps.lean ====
section
/-! DEFINITION. Jumps.lean: the relative jumps (44_jumps.md R210 to R213). PC is already the address after the operand
byte (R211; log entry 1). -/

namespace Sys2Proof.Machine

/-- R211: add the signed offset to PC. -/
def jumpRelative (e : Int) (s : State) : Out := .next { s with pc := jumpTarget s.pc e }

/-- R212: add the signed offset to PC if the condition holds. -/
def jumpRelativeIf (cc : Cond) (e : Int) (s : State) : Out :=
  if condHolds s.flags cc then .next { s with pc := jumpTarget s.pc e } else .next s

/-- JR r8 (R211). -/
def execJrR8 (e : Int) (s : State) : Out := jumpRelative e s

/-- JR NZ,r8 (R212). -/
def execJrNzR8 (e : Int) (s : State) : Out := jumpRelativeIf .nz e s

/-- JR Z,r8 (R212). -/
def execJrZR8 (e : Int) (s : State) : Out := jumpRelativeIf .z e s

/-- JR NC,r8 (R212). -/
def execJrNcR8 (e : Int) (s : State) : Out := jumpRelativeIf .nc e s

/-- JR C,r8 (R212). -/
def execJrCR8 (e : Int) (s : State) : Out := jumpRelativeIf .c e s

end Sys2Proof.Machine
end

