-- ==== Sys2Proof/Machine/Loads.lean ====
section
/-! DEFINITION. Loads.lean: the loads (40_loads.md R130 to R144). No load writes a flag. The operand bytes were fetched
before the meaning runs (30_encoding.md R107; log entry 1), and every address and stored value is read before anything
is written. -/

namespace Sys2Proof.Machine

/-- R130: `x[rr] <- v`. -/
def ldPairImm (p : Pair) (v : Word) (s : State) : Out := .next (s.setPair p v)

/-- R131 to R133: store A at the indirect address, then move HL for (HL+) and (HL-). -/
def storeAIndirect (i : Indirect) (s : State) : Out :=
  .next ((memWrite s (s.indirect i) s.a).afterIndirect i (s.indirect i))

/-- R134 to R136: load A from the indirect address, then move HL for (HL+) and (HL-). A read that faults moves nothing. -/
def loadAIndirect (i : Indirect) (s : State) : Out :=
  memRead s (s.indirect i) fun v t => .next ((t.setReg .a v).afterIndirect i (s.indirect i))

/-- R137: `x[r] <- v`. -/
def ldRegImm (r : Reg8) (v : Byte) (s : State) : Out := .next (s.setReg r v)

/-- R138: `MemWrite(x[HL], 1, v)`. -/
def ldMemImm (v : Byte) (s : State) : Out := .next (memWrite s (s.pair .hl) v)

/-- R139: SP's low byte at `addr`, then its high byte at `addr + 1` modulo 2^16. -/
def storeSp (addr : Word) (s : State) : Out :=
  .next (memWrite (memWrite s addr (lowByte s.sp)) (addr + 1#16) (highByte s.sp))

/-- R140: `x[r] <- x[r']`. -/
def copyReg (r r' : Reg8) (s : State) : Out := .next (s.setReg r (s.reg r'))

/-- R141: `x[r] <- MemRead(x[HL], 1)`, the address read before the write. -/
def loadReg (r : Reg8) (s : State) : Out := memRead s (s.pair .hl) fun v t => .next (t.setReg r v)

/-- R142: `MemWrite(x[HL], 1, x[r])`. -/
def storeReg (r : Reg8) (s : State) : Out := .next (memWrite s (s.pair .hl) (s.reg r))

/-- R143: `MemWrite(0xFF00 + o, 1, x[A])`. -/
def ldhStore (o : Byte) (s : State) : Out := .next (memWrite s (zeroPage o) s.a)

/-- R144: `x[A] <- MemRead(0xFF00 + o, 1)`. -/
def ldhLoad (o : Byte) (s : State) : Out := memRead s (zeroPage o) fun v t => .next (t.setReg .a v)

/-- LD BC,d16 (R130). -/
def execLdBcD16 (v : Word) (s : State) : Out := ldPairImm .bc v s

/-- LD (BC),A (R131). -/
def execLdIndBcA (s : State) : Out := storeAIndirect .bc s

/-- LD B,d8 (R137). -/
def execLdBD8 (v : Byte) (s : State) : Out := ldRegImm .b v s

/-- LD (a16),SP (R139). -/
def execLdA16Sp (v : Word) (s : State) : Out := storeSp v s

/-- LD A,(BC) (R134). -/
def execLdAIndBc (s : State) : Out := loadAIndirect .bc s

/-- LD C,d8 (R137). -/
def execLdCD8 (v : Byte) (s : State) : Out := ldRegImm .c v s

/-- LD DE,d16 (R130). -/
def execLdDeD16 (v : Word) (s : State) : Out := ldPairImm .de v s

/-- LD (DE),A (R131). -/
def execLdIndDeA (s : State) : Out := storeAIndirect .de s

/-- LD D,d8 (R137). -/
def execLdDD8 (v : Byte) (s : State) : Out := ldRegImm .d v s

/-- LD A,(DE) (R134). -/
def execLdAIndDe (s : State) : Out := loadAIndirect .de s

/-- LD E,d8 (R137). -/
def execLdED8 (v : Byte) (s : State) : Out := ldRegImm .e v s

/-- LD HL,d16 (R130). -/
def execLdHlD16 (v : Word) (s : State) : Out := ldPairImm .hl v s

/-- LD (HL+),A (R132). -/
def execLdHliA (s : State) : Out := storeAIndirect .hli s

/-- LD H,d8 (R137). -/
def execLdHD8 (v : Byte) (s : State) : Out := ldRegImm .h v s

/-- LD A,(HL+) (R135). -/
def execLdAHli (s : State) : Out := loadAIndirect .hli s

/-- LD L,d8 (R137). -/
def execLdLD8 (v : Byte) (s : State) : Out := ldRegImm .l v s

/-- LD SP,d16 (R130). -/
def execLdSpD16 (v : Word) (s : State) : Out := ldPairImm .sp v s

/-- LD (HL-),A (R133). -/
def execLdHldA (s : State) : Out := storeAIndirect .hld s

/-- LD (HL),d8 (R138). -/
def execLdIndHlD8 (v : Byte) (s : State) : Out := ldMemImm v s

/-- LD A,(HL-) (R136). -/
def execLdAHld (s : State) : Out := loadAIndirect .hld s

/-- LD A,d8 (R137). -/
def execLdAD8 (v : Byte) (s : State) : Out := ldRegImm .a v s

/-- LD B,B (R140). -/
def execLdBB (s : State) : Out := copyReg .b .b s

/-- LD B,C (R140). -/
def execLdBC (s : State) : Out := copyReg .b .c s

/-- LD B,D (R140). -/
def execLdBD (s : State) : Out := copyReg .b .d s

/-- LD B,E (R140). -/
def execLdBE (s : State) : Out := copyReg .b .e s

/-- LD B,H (R140). -/
def execLdBH (s : State) : Out := copyReg .b .h s

/-- LD B,L (R140). -/
def execLdBL (s : State) : Out := copyReg .b .l s

/-- LD B,(HL) (R141). -/
def execLdBIndHl (s : State) : Out := loadReg .b s

/-- LD B,A (R140). -/
def execLdBA (s : State) : Out := copyReg .b .a s

/-- LD C,B (R140). -/
def execLdCB (s : State) : Out := copyReg .c .b s

/-- LD C,C (R140). -/
def execLdCC (s : State) : Out := copyReg .c .c s

/-- LD C,D (R140). -/
def execLdCD (s : State) : Out := copyReg .c .d s

/-- LD C,E (R140). -/
def execLdCE (s : State) : Out := copyReg .c .e s

/-- LD C,H (R140). -/
def execLdCH (s : State) : Out := copyReg .c .h s

/-- LD C,L (R140). -/
def execLdCL (s : State) : Out := copyReg .c .l s

/-- LD C,(HL) (R141). -/
def execLdCIndHl (s : State) : Out := loadReg .c s

/-- LD C,A (R140). -/
def execLdCA (s : State) : Out := copyReg .c .a s

/-- LD D,B (R140). -/
def execLdDB (s : State) : Out := copyReg .d .b s

/-- LD D,C (R140). -/
def execLdDC (s : State) : Out := copyReg .d .c s

/-- LD D,D (R140). -/
def execLdDD (s : State) : Out := copyReg .d .d s

/-- LD D,E (R140). -/
def execLdDE (s : State) : Out := copyReg .d .e s

/-- LD D,H (R140). -/
def execLdDH (s : State) : Out := copyReg .d .h s

/-- LD D,L (R140). -/
def execLdDL (s : State) : Out := copyReg .d .l s

/-- LD D,(HL) (R141). -/
def execLdDIndHl (s : State) : Out := loadReg .d s

/-- LD D,A (R140). -/
def execLdDA (s : State) : Out := copyReg .d .a s

/-- LD E,B (R140). -/
def execLdEB (s : State) : Out := copyReg .e .b s

/-- LD E,C (R140). -/
def execLdEC (s : State) : Out := copyReg .e .c s

/-- LD E,D (R140). -/
def execLdED (s : State) : Out := copyReg .e .d s

/-- LD E,E (R140). -/
def execLdEE (s : State) : Out := copyReg .e .e s

/-- LD E,H (R140). -/
def execLdEH (s : State) : Out := copyReg .e .h s

/-- LD E,L (R140). -/
def execLdEL (s : State) : Out := copyReg .e .l s

/-- LD E,(HL) (R141). -/
def execLdEIndHl (s : State) : Out := loadReg .e s

/-- LD E,A (R140). -/
def execLdEA (s : State) : Out := copyReg .e .a s

/-- LD H,B (R140). -/
def execLdHB (s : State) : Out := copyReg .h .b s

/-- LD H,C (R140). -/
def execLdHC (s : State) : Out := copyReg .h .c s

/-- LD H,D (R140). -/
def execLdHD (s : State) : Out := copyReg .h .d s

/-- LD H,E (R140). -/
def execLdHE (s : State) : Out := copyReg .h .e s

/-- LD H,H (R140). -/
def execLdHH (s : State) : Out := copyReg .h .h s

/-- LD H,L (R140). -/
def execLdHL (s : State) : Out := copyReg .h .l s

/-- LD H,(HL) (R141). -/
def execLdHIndHl (s : State) : Out := loadReg .h s

/-- LD H,A (R140). -/
def execLdHA (s : State) : Out := copyReg .h .a s

/-- LD L,B (R140). -/
def execLdLB (s : State) : Out := copyReg .l .b s

/-- LD L,C (R140). -/
def execLdLC (s : State) : Out := copyReg .l .c s

/-- LD L,D (R140). -/
def execLdLD (s : State) : Out := copyReg .l .d s

/-- LD L,E (R140). -/
def execLdLE (s : State) : Out := copyReg .l .e s

/-- LD L,H (R140). -/
def execLdLH (s : State) : Out := copyReg .l .h s

/-- LD L,L (R140). -/
def execLdLL (s : State) : Out := copyReg .l .l s

/-- LD L,(HL) (R141). -/
def execLdLIndHl (s : State) : Out := loadReg .l s

/-- LD L,A (R140). -/
def execLdLA (s : State) : Out := copyReg .l .a s

/-- LD (HL),B (R142). -/
def execLdIndHlB (s : State) : Out := storeReg .b s

/-- LD (HL),C (R142). -/
def execLdIndHlC (s : State) : Out := storeReg .c s

/-- LD (HL),D (R142). -/
def execLdIndHlD (s : State) : Out := storeReg .d s

/-- LD (HL),E (R142). -/
def execLdIndHlE (s : State) : Out := storeReg .e s

/-- LD (HL),H (R142). -/
def execLdIndHlH (s : State) : Out := storeReg .h s

/-- LD (HL),L (R142). -/
def execLdIndHlL (s : State) : Out := storeReg .l s

/-- LD (HL),A (R142). -/
def execLdIndHlA (s : State) : Out := storeReg .a s

/-- LD A,B (R140). -/
def execLdAB (s : State) : Out := copyReg .a .b s

/-- LD A,C (R140). -/
def execLdAC (s : State) : Out := copyReg .a .c s

/-- LD A,D (R140). -/
def execLdAD (s : State) : Out := copyReg .a .d s

/-- LD A,E (R140). -/
def execLdAE (s : State) : Out := copyReg .a .e s

/-- LD A,H (R140). -/
def execLdAH (s : State) : Out := copyReg .a .h s

/-- LD A,L (R140). -/
def execLdAL (s : State) : Out := copyReg .a .l s

/-- LD A,(HL) (R141). -/
def execLdAIndHl (s : State) : Out := loadReg .a s

/-- LD A,A (R140). -/
def execLdAA (s : State) : Out := copyReg .a .a s

/-- LDH (a8),A (R143). -/
def execLdhA8A (o : Byte) (s : State) : Out := ldhStore o s

/-- LDH A,(a8) (R144). -/
def execLdhAA8 (o : Byte) (s : State) : Out := ldhLoad o s

end Sys2Proof.Machine
end

