-- ==== Sys2Proof/Machine/Misc.lean ====
section
/-! DEFINITION. Misc.lean: NOP, STOP and the 111 unbound opcodes (46_misc.md R240 to R243). -/

namespace Sys2Proof.Machine

/-- R242: under UNBOUND_POLICY nop nothing beyond the opcode fetch; under refuse the refusal UNBOUND_OPCODE(op). -/
def unboundOp (op : Byte) (s : State) : Out :=
  match s.launch.unboundPolicy with
  | .nop => .next s
  | .refuse => refuseStop op s

/-- NOP (R240). -/
def execNop (s : State) : Out := .next s

/-- STOP (R241): no effect; with STOP_LENGTH 2 its second byte was fetched and discarded with the instruction (log entry 1). -/
def execStop (s : State) : Out := .next s

/-- Unbound opcode 0x76 (R242). -/
def execUnbound76 (s : State) : Out := unboundOp 0x76#8 s

/-- Unbound opcode 0x90 (R242). -/
def execUnbound90 (s : State) : Out := unboundOp 0x90#8 s

/-- Unbound opcode 0x91 (R242). -/
def execUnbound91 (s : State) : Out := unboundOp 0x91#8 s

/-- Unbound opcode 0x92 (R242). -/
def execUnbound92 (s : State) : Out := unboundOp 0x92#8 s

/-- Unbound opcode 0x93 (R242). -/
def execUnbound93 (s : State) : Out := unboundOp 0x93#8 s

/-- Unbound opcode 0x94 (R242). -/
def execUnbound94 (s : State) : Out := unboundOp 0x94#8 s

/-- Unbound opcode 0x95 (R242). -/
def execUnbound95 (s : State) : Out := unboundOp 0x95#8 s

/-- Unbound opcode 0x96 (R242). -/
def execUnbound96 (s : State) : Out := unboundOp 0x96#8 s

/-- Unbound opcode 0x97 (R242). -/
def execUnbound97 (s : State) : Out := unboundOp 0x97#8 s

/-- Unbound opcode 0x98 (R242). -/
def execUnbound98 (s : State) : Out := unboundOp 0x98#8 s

/-- Unbound opcode 0x99 (R242). -/
def execUnbound99 (s : State) : Out := unboundOp 0x99#8 s

/-- Unbound opcode 0x9A (R242). -/
def execUnbound9A (s : State) : Out := unboundOp 0x9A#8 s

/-- Unbound opcode 0x9B (R242). -/
def execUnbound9B (s : State) : Out := unboundOp 0x9B#8 s

/-- Unbound opcode 0x9C (R242). -/
def execUnbound9C (s : State) : Out := unboundOp 0x9C#8 s

/-- Unbound opcode 0x9D (R242). -/
def execUnbound9D (s : State) : Out := unboundOp 0x9D#8 s

/-- Unbound opcode 0x9E (R242). -/
def execUnbound9E (s : State) : Out := unboundOp 0x9E#8 s

/-- Unbound opcode 0x9F (R242). -/
def execUnbound9F (s : State) : Out := unboundOp 0x9F#8 s

/-- Unbound opcode 0xA0 (R242). -/
def execUnboundA0 (s : State) : Out := unboundOp 0xA0#8 s

/-- Unbound opcode 0xA1 (R242). -/
def execUnboundA1 (s : State) : Out := unboundOp 0xA1#8 s

/-- Unbound opcode 0xA2 (R242). -/
def execUnboundA2 (s : State) : Out := unboundOp 0xA2#8 s

/-- Unbound opcode 0xA3 (R242). -/
def execUnboundA3 (s : State) : Out := unboundOp 0xA3#8 s

/-- Unbound opcode 0xA4 (R242). -/
def execUnboundA4 (s : State) : Out := unboundOp 0xA4#8 s

/-- Unbound opcode 0xA5 (R242). -/
def execUnboundA5 (s : State) : Out := unboundOp 0xA5#8 s

/-- Unbound opcode 0xA6 (R242). -/
def execUnboundA6 (s : State) : Out := unboundOp 0xA6#8 s

/-- Unbound opcode 0xA7 (R242). -/
def execUnboundA7 (s : State) : Out := unboundOp 0xA7#8 s

/-- Unbound opcode 0xA8 (R242). -/
def execUnboundA8 (s : State) : Out := unboundOp 0xA8#8 s

/-- Unbound opcode 0xA9 (R242). -/
def execUnboundA9 (s : State) : Out := unboundOp 0xA9#8 s

/-- Unbound opcode 0xAA (R242). -/
def execUnboundAA (s : State) : Out := unboundOp 0xAA#8 s

/-- Unbound opcode 0xAB (R242). -/
def execUnboundAB (s : State) : Out := unboundOp 0xAB#8 s

/-- Unbound opcode 0xAC (R242). -/
def execUnboundAC (s : State) : Out := unboundOp 0xAC#8 s

/-- Unbound opcode 0xAD (R242). -/
def execUnboundAD (s : State) : Out := unboundOp 0xAD#8 s

/-- Unbound opcode 0xAE (R242). -/
def execUnboundAE (s : State) : Out := unboundOp 0xAE#8 s

/-- Unbound opcode 0xAF (R242). -/
def execUnboundAF (s : State) : Out := unboundOp 0xAF#8 s

/-- Unbound opcode 0xB0 (R242). -/
def execUnboundB0 (s : State) : Out := unboundOp 0xB0#8 s

/-- Unbound opcode 0xB1 (R242). -/
def execUnboundB1 (s : State) : Out := unboundOp 0xB1#8 s

/-- Unbound opcode 0xB2 (R242). -/
def execUnboundB2 (s : State) : Out := unboundOp 0xB2#8 s

/-- Unbound opcode 0xB3 (R242). -/
def execUnboundB3 (s : State) : Out := unboundOp 0xB3#8 s

/-- Unbound opcode 0xB4 (R242). -/
def execUnboundB4 (s : State) : Out := unboundOp 0xB4#8 s

/-- Unbound opcode 0xB5 (R242). -/
def execUnboundB5 (s : State) : Out := unboundOp 0xB5#8 s

/-- Unbound opcode 0xB6 (R242). -/
def execUnboundB6 (s : State) : Out := unboundOp 0xB6#8 s

/-- Unbound opcode 0xB7 (R242). -/
def execUnboundB7 (s : State) : Out := unboundOp 0xB7#8 s

/-- Unbound opcode 0xB8 (R242). -/
def execUnboundB8 (s : State) : Out := unboundOp 0xB8#8 s

/-- Unbound opcode 0xB9 (R242). -/
def execUnboundB9 (s : State) : Out := unboundOp 0xB9#8 s

/-- Unbound opcode 0xBA (R242). -/
def execUnboundBA (s : State) : Out := unboundOp 0xBA#8 s

/-- Unbound opcode 0xBB (R242). -/
def execUnboundBB (s : State) : Out := unboundOp 0xBB#8 s

/-- Unbound opcode 0xBC (R242). -/
def execUnboundBC (s : State) : Out := unboundOp 0xBC#8 s

/-- Unbound opcode 0xBD (R242). -/
def execUnboundBD (s : State) : Out := unboundOp 0xBD#8 s

/-- Unbound opcode 0xBE (R242). -/
def execUnboundBE (s : State) : Out := unboundOp 0xBE#8 s

/-- Unbound opcode 0xBF (R242). -/
def execUnboundBF (s : State) : Out := unboundOp 0xBF#8 s

/-- Unbound opcode 0xC0 (R242). -/
def execUnboundC0 (s : State) : Out := unboundOp 0xC0#8 s

/-- Unbound opcode 0xC1 (R242). -/
def execUnboundC1 (s : State) : Out := unboundOp 0xC1#8 s

/-- Unbound opcode 0xC2 (R242). -/
def execUnboundC2 (s : State) : Out := unboundOp 0xC2#8 s

/-- Unbound opcode 0xC3 (R242). -/
def execUnboundC3 (s : State) : Out := unboundOp 0xC3#8 s

/-- Unbound opcode 0xC4 (R242). -/
def execUnboundC4 (s : State) : Out := unboundOp 0xC4#8 s

/-- Unbound opcode 0xC5 (R242). -/
def execUnboundC5 (s : State) : Out := unboundOp 0xC5#8 s

/-- Unbound opcode 0xC6 (R242). -/
def execUnboundC6 (s : State) : Out := unboundOp 0xC6#8 s

/-- Unbound opcode 0xC7 (R242). -/
def execUnboundC7 (s : State) : Out := unboundOp 0xC7#8 s

/-- Unbound opcode 0xC8 (R242). -/
def execUnboundC8 (s : State) : Out := unboundOp 0xC8#8 s

/-- Unbound opcode 0xC9 (R242). -/
def execUnboundC9 (s : State) : Out := unboundOp 0xC9#8 s

/-- Unbound opcode 0xCA (R242). -/
def execUnboundCA (s : State) : Out := unboundOp 0xCA#8 s

/-- Unbound opcode 0xCB (R242). -/
def execUnboundCB (s : State) : Out := unboundOp 0xCB#8 s

/-- Unbound opcode 0xCC (R242). -/
def execUnboundCC (s : State) : Out := unboundOp 0xCC#8 s

/-- Unbound opcode 0xCD (R242). -/
def execUnboundCD (s : State) : Out := unboundOp 0xCD#8 s

/-- Unbound opcode 0xCE (R242). -/
def execUnboundCE (s : State) : Out := unboundOp 0xCE#8 s

/-- Unbound opcode 0xCF (R242). -/
def execUnboundCF (s : State) : Out := unboundOp 0xCF#8 s

/-- Unbound opcode 0xD0 (R242). -/
def execUnboundD0 (s : State) : Out := unboundOp 0xD0#8 s

/-- Unbound opcode 0xD1 (R242). -/
def execUnboundD1 (s : State) : Out := unboundOp 0xD1#8 s

/-- Unbound opcode 0xD2 (R242). -/
def execUnboundD2 (s : State) : Out := unboundOp 0xD2#8 s

/-- Unbound opcode 0xD3 (R242). -/
def execUnboundD3 (s : State) : Out := unboundOp 0xD3#8 s

/-- Unbound opcode 0xD4 (R242). -/
def execUnboundD4 (s : State) : Out := unboundOp 0xD4#8 s

/-- Unbound opcode 0xD5 (R242). -/
def execUnboundD5 (s : State) : Out := unboundOp 0xD5#8 s

/-- Unbound opcode 0xD6 (R242). -/
def execUnboundD6 (s : State) : Out := unboundOp 0xD6#8 s

/-- Unbound opcode 0xD7 (R242). -/
def execUnboundD7 (s : State) : Out := unboundOp 0xD7#8 s

/-- Unbound opcode 0xD8 (R242). -/
def execUnboundD8 (s : State) : Out := unboundOp 0xD8#8 s

/-- Unbound opcode 0xD9 (R242). -/
def execUnboundD9 (s : State) : Out := unboundOp 0xD9#8 s

/-- Unbound opcode 0xDA (R242). -/
def execUnboundDA (s : State) : Out := unboundOp 0xDA#8 s

/-- Unbound opcode 0xDB (R242). -/
def execUnboundDB (s : State) : Out := unboundOp 0xDB#8 s

/-- Unbound opcode 0xDC (R242). -/
def execUnboundDC (s : State) : Out := unboundOp 0xDC#8 s

/-- Unbound opcode 0xDD (R242). -/
def execUnboundDD (s : State) : Out := unboundOp 0xDD#8 s

/-- Unbound opcode 0xDE (R242). -/
def execUnboundDE (s : State) : Out := unboundOp 0xDE#8 s

/-- Unbound opcode 0xDF (R242). -/
def execUnboundDF (s : State) : Out := unboundOp 0xDF#8 s

/-- Unbound opcode 0xE1 (R242). -/
def execUnboundE1 (s : State) : Out := unboundOp 0xE1#8 s

/-- Unbound opcode 0xE2 (R242). -/
def execUnboundE2 (s : State) : Out := unboundOp 0xE2#8 s

/-- Unbound opcode 0xE3 (R242). -/
def execUnboundE3 (s : State) : Out := unboundOp 0xE3#8 s

/-- Unbound opcode 0xE4 (R242). -/
def execUnboundE4 (s : State) : Out := unboundOp 0xE4#8 s

/-- Unbound opcode 0xE5 (R242). -/
def execUnboundE5 (s : State) : Out := unboundOp 0xE5#8 s

/-- Unbound opcode 0xE6 (R242). -/
def execUnboundE6 (s : State) : Out := unboundOp 0xE6#8 s

/-- Unbound opcode 0xE7 (R242). -/
def execUnboundE7 (s : State) : Out := unboundOp 0xE7#8 s

/-- Unbound opcode 0xE8 (R242). -/
def execUnboundE8 (s : State) : Out := unboundOp 0xE8#8 s

/-- Unbound opcode 0xE9 (R242). -/
def execUnboundE9 (s : State) : Out := unboundOp 0xE9#8 s

/-- Unbound opcode 0xEA (R242). -/
def execUnboundEA (s : State) : Out := unboundOp 0xEA#8 s

/-- Unbound opcode 0xEB (R242). -/
def execUnboundEB (s : State) : Out := unboundOp 0xEB#8 s

/-- Unbound opcode 0xEC (R242). -/
def execUnboundEC (s : State) : Out := unboundOp 0xEC#8 s

/-- Unbound opcode 0xED (R242). -/
def execUnboundED (s : State) : Out := unboundOp 0xED#8 s

/-- Unbound opcode 0xEE (R242). -/
def execUnboundEE (s : State) : Out := unboundOp 0xEE#8 s

/-- Unbound opcode 0xEF (R242). -/
def execUnboundEF (s : State) : Out := unboundOp 0xEF#8 s

/-- Unbound opcode 0xF1 (R242). -/
def execUnboundF1 (s : State) : Out := unboundOp 0xF1#8 s

/-- Unbound opcode 0xF2 (R242). -/
def execUnboundF2 (s : State) : Out := unboundOp 0xF2#8 s

/-- Unbound opcode 0xF3 (R242). -/
def execUnboundF3 (s : State) : Out := unboundOp 0xF3#8 s

/-- Unbound opcode 0xF4 (R242). -/
def execUnboundF4 (s : State) : Out := unboundOp 0xF4#8 s

/-- Unbound opcode 0xF5 (R242). -/
def execUnboundF5 (s : State) : Out := unboundOp 0xF5#8 s

/-- Unbound opcode 0xF6 (R242). -/
def execUnboundF6 (s : State) : Out := unboundOp 0xF6#8 s

/-- Unbound opcode 0xF7 (R242). -/
def execUnboundF7 (s : State) : Out := unboundOp 0xF7#8 s

/-- Unbound opcode 0xF8 (R242). -/
def execUnboundF8 (s : State) : Out := unboundOp 0xF8#8 s

/-- Unbound opcode 0xF9 (R242). -/
def execUnboundF9 (s : State) : Out := unboundOp 0xF9#8 s

/-- Unbound opcode 0xFA (R242). -/
def execUnboundFA (s : State) : Out := unboundOp 0xFA#8 s

/-- Unbound opcode 0xFB (R242). -/
def execUnboundFB (s : State) : Out := unboundOp 0xFB#8 s

/-- Unbound opcode 0xFC (R242). -/
def execUnboundFC (s : State) : Out := unboundOp 0xFC#8 s

/-- Unbound opcode 0xFD (R242). -/
def execUnboundFD (s : State) : Out := unboundOp 0xFD#8 s

/-- Unbound opcode 0xFE (R242). -/
def execUnboundFE (s : State) : Out := unboundOp 0xFE#8 s

/-- Unbound opcode 0xFF (R242). -/
def execUnboundFF (s : State) : Out := unboundOp 0xFF#8 s

end Sys2Proof.Machine
end

