-- ==== Sys2Proof/Machine/Rotates.lean ====
section
/-! DEFINITION. Rotates.lean: the accumulator rotates (42_rotates.md R190 to R193). -/

namespace Sys2Proof.Machine

/-- Write a rotate's result to A and its flags to F. -/
def rotateA (r : Alu) (s : State) : Out := .next ((s.setReg .a r.res).setFlags r.flags)

/-- RLCA (R190). -/
def execRlca (s : State) : Out := rotateA (rotateLeft s.a (s.a.getLsbD 7)) s

/-- RRCA (R191). -/
def execRrca (s : State) : Out := rotateA (rotateRight s.a (s.a.getLsbD 0)) s

/-- RLA (R192). -/
def execRla (s : State) : Out := rotateA (rotateLeft s.a s.flags.c) s

/-- RRA (R193). -/
def execRra (s : State) : Out := rotateA (rotateRight s.a s.flags.c) s

end Sys2Proof.Machine
end

