-- ==== Sys2Proof/Machine/Dispatch.lean ====
section
/-! DEFINITION. Dispatch.lean: one arm per instruction, each a direct call of its meaning. -/

namespace Sys2Proof.Machine

def exec (i : Instr) (s : State) : Host.Outcome State Fault Refusal :=
  match i with
  | .nop => Sys2Proof.Machine.execNop s
  | .ldBcD16 v => Sys2Proof.Machine.execLdBcD16 v s
  | .ldIndBcA => Sys2Proof.Machine.execLdIndBcA s
  | .incBc => Sys2Proof.Machine.execIncBc s
  | .incB => Sys2Proof.Machine.execIncB s
  | .decB => Sys2Proof.Machine.execDecB s
  | .ldBD8 v => Sys2Proof.Machine.execLdBD8 v s
  | .rlca => Sys2Proof.Machine.execRlca s
  | .ldA16Sp v => Sys2Proof.Machine.execLdA16Sp v s
  | .addHlBc => Sys2Proof.Machine.execAddHlBc s
  | .ldAIndBc => Sys2Proof.Machine.execLdAIndBc s
  | .decBc => Sys2Proof.Machine.execDecBc s
  | .incC => Sys2Proof.Machine.execIncC s
  | .decC => Sys2Proof.Machine.execDecC s
  | .ldCD8 v => Sys2Proof.Machine.execLdCD8 v s
  | .rrca => Sys2Proof.Machine.execRrca s
  | .stop => Sys2Proof.Machine.execStop s
  | .ldDeD16 v => Sys2Proof.Machine.execLdDeD16 v s
  | .ldIndDeA => Sys2Proof.Machine.execLdIndDeA s
  | .incDe => Sys2Proof.Machine.execIncDe s
  | .incD => Sys2Proof.Machine.execIncD s
  | .decD => Sys2Proof.Machine.execDecD s
  | .ldDD8 v => Sys2Proof.Machine.execLdDD8 v s
  | .rla => Sys2Proof.Machine.execRla s
  | .jrR8 e => Sys2Proof.Machine.execJrR8 e s
  | .addHlDe => Sys2Proof.Machine.execAddHlDe s
  | .ldAIndDe => Sys2Proof.Machine.execLdAIndDe s
  | .decDe => Sys2Proof.Machine.execDecDe s
  | .incE => Sys2Proof.Machine.execIncE s
  | .decE => Sys2Proof.Machine.execDecE s
  | .ldED8 v => Sys2Proof.Machine.execLdED8 v s
  | .rra => Sys2Proof.Machine.execRra s
  | .jrNzR8 e => Sys2Proof.Machine.execJrNzR8 e s
  | .ldHlD16 v => Sys2Proof.Machine.execLdHlD16 v s
  | .ldHliA => Sys2Proof.Machine.execLdHliA s
  | .incHl => Sys2Proof.Machine.execIncHl s
  | .incH => Sys2Proof.Machine.execIncH s
  | .decH => Sys2Proof.Machine.execDecH s
  | .ldHD8 v => Sys2Proof.Machine.execLdHD8 v s
  | .daa => Sys2Proof.Machine.execDaa s
  | .jrZR8 e => Sys2Proof.Machine.execJrZR8 e s
  | .addHlHl => Sys2Proof.Machine.execAddHlHl s
  | .ldAHli => Sys2Proof.Machine.execLdAHli s
  | .decHl => Sys2Proof.Machine.execDecHl s
  | .incL => Sys2Proof.Machine.execIncL s
  | .decL => Sys2Proof.Machine.execDecL s
  | .ldLD8 v => Sys2Proof.Machine.execLdLD8 v s
  | .cpl => Sys2Proof.Machine.execCpl s
  | .jrNcR8 e => Sys2Proof.Machine.execJrNcR8 e s
  | .ldSpD16 v => Sys2Proof.Machine.execLdSpD16 v s
  | .ldHldA => Sys2Proof.Machine.execLdHldA s
  | .incSp => Sys2Proof.Machine.execIncSp s
  | .incIndHl => Sys2Proof.Machine.execIncIndHl s
  | .decIndHl => Sys2Proof.Machine.execDecIndHl s
  | .ldIndHlD8 v => Sys2Proof.Machine.execLdIndHlD8 v s
  | .scf => Sys2Proof.Machine.execScf s
  | .jrCR8 e => Sys2Proof.Machine.execJrCR8 e s
  | .addHlSp => Sys2Proof.Machine.execAddHlSp s
  | .ldAHld => Sys2Proof.Machine.execLdAHld s
  | .decSp => Sys2Proof.Machine.execDecSp s
  | .incA => Sys2Proof.Machine.execIncA s
  | .decA => Sys2Proof.Machine.execDecA s
  | .ldAD8 v => Sys2Proof.Machine.execLdAD8 v s
  | .ccf => Sys2Proof.Machine.execCcf s
  | .ldBB => Sys2Proof.Machine.execLdBB s
  | .ldBC => Sys2Proof.Machine.execLdBC s
  | .ldBD => Sys2Proof.Machine.execLdBD s
  | .ldBE => Sys2Proof.Machine.execLdBE s
  | .ldBH => Sys2Proof.Machine.execLdBH s
  | .ldBL => Sys2Proof.Machine.execLdBL s
  | .ldBIndHl => Sys2Proof.Machine.execLdBIndHl s
  | .ldBA => Sys2Proof.Machine.execLdBA s
  | .ldCB => Sys2Proof.Machine.execLdCB s
  | .ldCC => Sys2Proof.Machine.execLdCC s
  | .ldCD => Sys2Proof.Machine.execLdCD s
  | .ldCE => Sys2Proof.Machine.execLdCE s
  | .ldCH => Sys2Proof.Machine.execLdCH s
  | .ldCL => Sys2Proof.Machine.execLdCL s
  | .ldCIndHl => Sys2Proof.Machine.execLdCIndHl s
  | .ldCA => Sys2Proof.Machine.execLdCA s
  | .ldDB => Sys2Proof.Machine.execLdDB s
  | .ldDC => Sys2Proof.Machine.execLdDC s
  | .ldDD => Sys2Proof.Machine.execLdDD s
  | .ldDE => Sys2Proof.Machine.execLdDE s
  | .ldDH => Sys2Proof.Machine.execLdDH s
  | .ldDL => Sys2Proof.Machine.execLdDL s
  | .ldDIndHl => Sys2Proof.Machine.execLdDIndHl s
  | .ldDA => Sys2Proof.Machine.execLdDA s
  | .ldEB => Sys2Proof.Machine.execLdEB s
  | .ldEC => Sys2Proof.Machine.execLdEC s
  | .ldED => Sys2Proof.Machine.execLdED s
  | .ldEE => Sys2Proof.Machine.execLdEE s
  | .ldEH => Sys2Proof.Machine.execLdEH s
  | .ldEL => Sys2Proof.Machine.execLdEL s
  | .ldEIndHl => Sys2Proof.Machine.execLdEIndHl s
  | .ldEA => Sys2Proof.Machine.execLdEA s
  | .ldHB => Sys2Proof.Machine.execLdHB s
  | .ldHC => Sys2Proof.Machine.execLdHC s
  | .ldHD => Sys2Proof.Machine.execLdHD s
  | .ldHE => Sys2Proof.Machine.execLdHE s
  | .ldHH => Sys2Proof.Machine.execLdHH s
  | .ldHL => Sys2Proof.Machine.execLdHL s
  | .ldHIndHl => Sys2Proof.Machine.execLdHIndHl s
  | .ldHA => Sys2Proof.Machine.execLdHA s
  | .ldLB => Sys2Proof.Machine.execLdLB s
  | .ldLC => Sys2Proof.Machine.execLdLC s
  | .ldLD => Sys2Proof.Machine.execLdLD s
  | .ldLE => Sys2Proof.Machine.execLdLE s
  | .ldLH => Sys2Proof.Machine.execLdLH s
  | .ldLL => Sys2Proof.Machine.execLdLL s
  | .ldLIndHl => Sys2Proof.Machine.execLdLIndHl s
  | .ldLA => Sys2Proof.Machine.execLdLA s
  | .ldIndHlB => Sys2Proof.Machine.execLdIndHlB s
  | .ldIndHlC => Sys2Proof.Machine.execLdIndHlC s
  | .ldIndHlD => Sys2Proof.Machine.execLdIndHlD s
  | .ldIndHlE => Sys2Proof.Machine.execLdIndHlE s
  | .ldIndHlH => Sys2Proof.Machine.execLdIndHlH s
  | .ldIndHlL => Sys2Proof.Machine.execLdIndHlL s
  | .unbound76 => Sys2Proof.Machine.execUnbound76 s
  | .ldIndHlA => Sys2Proof.Machine.execLdIndHlA s
  | .ldAB => Sys2Proof.Machine.execLdAB s
  | .ldAC => Sys2Proof.Machine.execLdAC s
  | .ldAD => Sys2Proof.Machine.execLdAD s
  | .ldAE => Sys2Proof.Machine.execLdAE s
  | .ldAH => Sys2Proof.Machine.execLdAH s
  | .ldAL => Sys2Proof.Machine.execLdAL s
  | .ldAIndHl => Sys2Proof.Machine.execLdAIndHl s
  | .ldAA => Sys2Proof.Machine.execLdAA s
  | .addAB => Sys2Proof.Machine.execAddAB s
  | .addAC => Sys2Proof.Machine.execAddAC s
  | .addAD => Sys2Proof.Machine.execAddAD s
  | .addAE => Sys2Proof.Machine.execAddAE s
  | .addAH => Sys2Proof.Machine.execAddAH s
  | .addAL => Sys2Proof.Machine.execAddAL s
  | .addAIndHl => Sys2Proof.Machine.execAddAIndHl s
  | .addAA => Sys2Proof.Machine.execAddAA s
  | .adcAB => Sys2Proof.Machine.execAdcAB s
  | .adcAC => Sys2Proof.Machine.execAdcAC s
  | .adcAD => Sys2Proof.Machine.execAdcAD s
  | .adcAE => Sys2Proof.Machine.execAdcAE s
  | .adcAH => Sys2Proof.Machine.execAdcAH s
  | .adcAL => Sys2Proof.Machine.execAdcAL s
  | .adcAIndHl => Sys2Proof.Machine.execAdcAIndHl s
  | .adcAA => Sys2Proof.Machine.execAdcAA s
  | .unbound90 => Sys2Proof.Machine.execUnbound90 s
  | .unbound91 => Sys2Proof.Machine.execUnbound91 s
  | .unbound92 => Sys2Proof.Machine.execUnbound92 s
  | .unbound93 => Sys2Proof.Machine.execUnbound93 s
  | .unbound94 => Sys2Proof.Machine.execUnbound94 s
  | .unbound95 => Sys2Proof.Machine.execUnbound95 s
  | .unbound96 => Sys2Proof.Machine.execUnbound96 s
  | .unbound97 => Sys2Proof.Machine.execUnbound97 s
  | .unbound98 => Sys2Proof.Machine.execUnbound98 s
  | .unbound99 => Sys2Proof.Machine.execUnbound99 s
  | .unbound9A => Sys2Proof.Machine.execUnbound9A s
  | .unbound9B => Sys2Proof.Machine.execUnbound9B s
  | .unbound9C => Sys2Proof.Machine.execUnbound9C s
  | .unbound9D => Sys2Proof.Machine.execUnbound9D s
  | .unbound9E => Sys2Proof.Machine.execUnbound9E s
  | .unbound9F => Sys2Proof.Machine.execUnbound9F s
  | .unboundA0 => Sys2Proof.Machine.execUnboundA0 s
  | .unboundA1 => Sys2Proof.Machine.execUnboundA1 s
  | .unboundA2 => Sys2Proof.Machine.execUnboundA2 s
  | .unboundA3 => Sys2Proof.Machine.execUnboundA3 s
  | .unboundA4 => Sys2Proof.Machine.execUnboundA4 s
  | .unboundA5 => Sys2Proof.Machine.execUnboundA5 s
  | .unboundA6 => Sys2Proof.Machine.execUnboundA6 s
  | .unboundA7 => Sys2Proof.Machine.execUnboundA7 s
  | .unboundA8 => Sys2Proof.Machine.execUnboundA8 s
  | .unboundA9 => Sys2Proof.Machine.execUnboundA9 s
  | .unboundAA => Sys2Proof.Machine.execUnboundAA s
  | .unboundAB => Sys2Proof.Machine.execUnboundAB s
  | .unboundAC => Sys2Proof.Machine.execUnboundAC s
  | .unboundAD => Sys2Proof.Machine.execUnboundAD s
  | .unboundAE => Sys2Proof.Machine.execUnboundAE s
  | .unboundAF => Sys2Proof.Machine.execUnboundAF s
  | .unboundB0 => Sys2Proof.Machine.execUnboundB0 s
  | .unboundB1 => Sys2Proof.Machine.execUnboundB1 s
  | .unboundB2 => Sys2Proof.Machine.execUnboundB2 s
  | .unboundB3 => Sys2Proof.Machine.execUnboundB3 s
  | .unboundB4 => Sys2Proof.Machine.execUnboundB4 s
  | .unboundB5 => Sys2Proof.Machine.execUnboundB5 s
  | .unboundB6 => Sys2Proof.Machine.execUnboundB6 s
  | .unboundB7 => Sys2Proof.Machine.execUnboundB7 s
  | .unboundB8 => Sys2Proof.Machine.execUnboundB8 s
  | .unboundB9 => Sys2Proof.Machine.execUnboundB9 s
  | .unboundBA => Sys2Proof.Machine.execUnboundBA s
  | .unboundBB => Sys2Proof.Machine.execUnboundBB s
  | .unboundBC => Sys2Proof.Machine.execUnboundBC s
  | .unboundBD => Sys2Proof.Machine.execUnboundBD s
  | .unboundBE => Sys2Proof.Machine.execUnboundBE s
  | .unboundBF => Sys2Proof.Machine.execUnboundBF s
  | .unboundC0 => Sys2Proof.Machine.execUnboundC0 s
  | .unboundC1 => Sys2Proof.Machine.execUnboundC1 s
  | .unboundC2 => Sys2Proof.Machine.execUnboundC2 s
  | .unboundC3 => Sys2Proof.Machine.execUnboundC3 s
  | .unboundC4 => Sys2Proof.Machine.execUnboundC4 s
  | .unboundC5 => Sys2Proof.Machine.execUnboundC5 s
  | .unboundC6 => Sys2Proof.Machine.execUnboundC6 s
  | .unboundC7 => Sys2Proof.Machine.execUnboundC7 s
  | .unboundC8 => Sys2Proof.Machine.execUnboundC8 s
  | .unboundC9 => Sys2Proof.Machine.execUnboundC9 s
  | .unboundCA => Sys2Proof.Machine.execUnboundCA s
  | .unboundCB => Sys2Proof.Machine.execUnboundCB s
  | .unboundCC => Sys2Proof.Machine.execUnboundCC s
  | .unboundCD => Sys2Proof.Machine.execUnboundCD s
  | .unboundCE => Sys2Proof.Machine.execUnboundCE s
  | .unboundCF => Sys2Proof.Machine.execUnboundCF s
  | .unboundD0 => Sys2Proof.Machine.execUnboundD0 s
  | .unboundD1 => Sys2Proof.Machine.execUnboundD1 s
  | .unboundD2 => Sys2Proof.Machine.execUnboundD2 s
  | .unboundD3 => Sys2Proof.Machine.execUnboundD3 s
  | .unboundD4 => Sys2Proof.Machine.execUnboundD4 s
  | .unboundD5 => Sys2Proof.Machine.execUnboundD5 s
  | .unboundD6 => Sys2Proof.Machine.execUnboundD6 s
  | .unboundD7 => Sys2Proof.Machine.execUnboundD7 s
  | .unboundD8 => Sys2Proof.Machine.execUnboundD8 s
  | .unboundD9 => Sys2Proof.Machine.execUnboundD9 s
  | .unboundDA => Sys2Proof.Machine.execUnboundDA s
  | .unboundDB => Sys2Proof.Machine.execUnboundDB s
  | .unboundDC => Sys2Proof.Machine.execUnboundDC s
  | .unboundDD => Sys2Proof.Machine.execUnboundDD s
  | .unboundDE => Sys2Proof.Machine.execUnboundDE s
  | .unboundDF => Sys2Proof.Machine.execUnboundDF s
  | .ldhA8A o => Sys2Proof.Machine.execLdhA8A o s
  | .unboundE1 => Sys2Proof.Machine.execUnboundE1 s
  | .unboundE2 => Sys2Proof.Machine.execUnboundE2 s
  | .unboundE3 => Sys2Proof.Machine.execUnboundE3 s
  | .unboundE4 => Sys2Proof.Machine.execUnboundE4 s
  | .unboundE5 => Sys2Proof.Machine.execUnboundE5 s
  | .unboundE6 => Sys2Proof.Machine.execUnboundE6 s
  | .unboundE7 => Sys2Proof.Machine.execUnboundE7 s
  | .unboundE8 => Sys2Proof.Machine.execUnboundE8 s
  | .unboundE9 => Sys2Proof.Machine.execUnboundE9 s
  | .unboundEA => Sys2Proof.Machine.execUnboundEA s
  | .unboundEB => Sys2Proof.Machine.execUnboundEB s
  | .unboundEC => Sys2Proof.Machine.execUnboundEC s
  | .unboundED => Sys2Proof.Machine.execUnboundED s
  | .unboundEE => Sys2Proof.Machine.execUnboundEE s
  | .unboundEF => Sys2Proof.Machine.execUnboundEF s
  | .ldhAA8 o => Sys2Proof.Machine.execLdhAA8 o s
  | .unboundF1 => Sys2Proof.Machine.execUnboundF1 s
  | .unboundF2 => Sys2Proof.Machine.execUnboundF2 s
  | .unboundF3 => Sys2Proof.Machine.execUnboundF3 s
  | .unboundF4 => Sys2Proof.Machine.execUnboundF4 s
  | .unboundF5 => Sys2Proof.Machine.execUnboundF5 s
  | .unboundF6 => Sys2Proof.Machine.execUnboundF6 s
  | .unboundF7 => Sys2Proof.Machine.execUnboundF7 s
  | .unboundF8 => Sys2Proof.Machine.execUnboundF8 s
  | .unboundF9 => Sys2Proof.Machine.execUnboundF9 s
  | .unboundFA => Sys2Proof.Machine.execUnboundFA s
  | .unboundFB => Sys2Proof.Machine.execUnboundFB s
  | .unboundFC => Sys2Proof.Machine.execUnboundFC s
  | .unboundFD => Sys2Proof.Machine.execUnboundFD s
  | .unboundFE => Sys2Proof.Machine.execUnboundFE s
  | .unboundFF => Sys2Proof.Machine.execUnboundFF s

end Sys2Proof.Machine
end

