-- ==== Sys2Proof/Machine/Fetch.lean ====
section
/-! DEFINITION. Fetch.lean: fetching an instruction (30_encoding.md R107, R108) and placing one where it will be
fetched (log entry 14). -/

namespace Sys2Proof.Machine

/-- Fetch `n` bytes at PC, in order. -/
def fetchBytes : Nat → State → (List Byte → State → Out) → Out
  | 0, s, k => k [] s
  | n + 1, s, k => fetch8 s fun v t => fetchBytes n t fun vs u => k (v :: vs) u

/-- Fetch the opcode byte and every operand byte it calls for, then hand the instruction on: PC is then the address
after the last of them (R107, R108, 10_state.md R27; log entry 1). A fetch beyond the ROM ends the step there, PC at the
byte that could not be fetched (60_exceptions.md R307). -/
def fetchInstr (s : State) (k : Instr → State → Out) : Out :=
  fetch8 s fun op t =>
    fetchBytes (operandCount t.launch.stopLength op) t fun operands u => k (decodeOperands op operands) u

/-- A byte can be placed where a fetch of `addr` reads it. -/
def placeable (s : State) (addr : Word) : Bool :=
  match region addr with
  | .bootOverlay => !s.bootOff || decide (addr.toNat < s.launch.romSize)
  | .cartRom => decide (addr.toNat < s.launch.romSize)
  | .vram => !vramBlocked s
  | .extRam => decide (addr.toNat - 0xA000 < s.launch.extRamSize)
  | .wram | .echo | .oam | .hram | .ie => true
  | .unusable | .io => false

/-- Place a byte where a fetch of `addr` reads it: in BOOT_ROM or ROM as the launch would, else in the store. -/
def placeByte (s : State) (addr : Word) (v : Byte) : State :=
  match region addr with
  | .bootOverlay =>
    if s.bootOff then { s with launch := { s.launch with rom := Memory.write s.launch.rom addr.toNat v } }
    else { s with launch := { s.launch with bootRom := Memory.write s.launch.bootRom addr.toNat v } }
  | .cartRom => { s with launch := { s.launch with rom := Memory.write s.launch.rom addr.toNat v } }
  | .vram | .extRam | .wram | .echo | .oam | .unusable | .io | .hram | .ie => memWrite s addr v

/-- Place bytes from `addr` on, modulo 2^16. -/
def placeBytes : State → Word → List Byte → State
  | s, _, [] => s
  | s, addr, v :: vs => placeBytes (placeByte s addr v) (addr + 1#16) vs

/-- The state that fetches at a place where three bytes can be placed: as it is if PC is such a place, else with PC at
the start of work RAM. A launched machine is not halted (70_reset_and_hazards.md R357). -/
def readyToPlace (s : State) : State :=
  if placeable s s.pc && placeable s (s.pc + 1#16) && placeable s (s.pc + 2#16) then { s with haltedBy := .none }
  else { s with haltedBy := .none, pc := 0xC000#16 }

/-- The state whose next step fetches the bytes (log entry 14). -/
def placeAtFetch (s : State) (bytes : List Byte) : State := placeBytes (readyToPlace s) (readyToPlace s).pc bytes

end Sys2Proof.Machine
end

