-- ==== Sys2Proof/Machine/Ppu.lean ====
section
/-! DEFINITION. Ppu.lean: the PPU timing state machine (60_exceptions.md R310 to R314). It touches nothing but its own
state (R314). -/

namespace Sys2Proof.Machine

/-- The budget of each mode in cycles (R310). -/
def PpuMode.budget : PpuMode → Nat
  | .oamScan => 80
  | .vramAccess => 172
  | .hblank => 204
  | .vblank => 4560

/-- `transition()` (R312). -/
def Ppu.transition (p : Ppu) : Ppu :=
  match p.mode with
  | .oamScan => { p with mode := .vramAccess }
  | .vramAccess => { p with mode := .hblank }
  | .hblank =>
    { p with line := p.line + 1, mode := if p.line + 1 = Config.visibleLines then .vblank else .oamScan }
  | .vblank => { p with line := 0, mode := .oamScan }

/-- The loop of R311, at most `fuel` rounds: while the mode's budget is reached, take it off and move to the next mode,
the excess carried over. -/
def Ppu.settle : Nat → Ppu → Ppu
  | 0, p => p
  | fuel + 1, p =>
    if p.mode.budget ≤ p.modeClock then
      Ppu.settle fuel (Ppu.transition { p with modeClock := p.modeClock - p.mode.budget })
    else p

/-- `ppu_cycle(T)` for the cumulative count `T` (R311). Every round takes at least one cycle off the mode clock, so the
clock's own value is enough rounds (`Ppu.settle_done` in Laws/Ppu.lean). -/
def Ppu.cycle (p : Ppu) (t : Nat) : Ppu :=
  Ppu.settle (p.modeClock + (t - p.total)) { p with modeClock := p.modeClock + (t - p.total), total := t }

/-- The PPU advance of a system step that cost `cost` cycles (R315). -/
def advancePpu (cost : Nat) (s : State) : State := { s with ppu := s.ppu.cycle (s.ppu.total + cost) }

end Sys2Proof.Machine
end

