-- ==== Sys2Proof/Machine/Timing.lean ====
section
/-! DEFINITION. Timing.lean: CYCLE_COST, the cycles a CPU step costs (70_reset_and_hazards.md R363), and the T-state
table of R364 as one of its settings. -/

namespace Sys2Proof.Machine

/-- A conditional jump is taken in this state; false for every other instruction (70_reset_and_hazards.md R363 lets the
cost depend on nothing else). -/
def jumpTaken (i : Instr) (s : State) : Bool :=
  match i.form with
  | .jrCond cc _ => condHolds s.flags cc
  | .nop | .stop | .ldPairImm _ _ | .ldIndA _ | .ldAInd _ | .incPair _ | .decPair _ | .incReg _ | .incMem | .decReg _
  | .decMem | .ldRegImm _ _ | .ldMemImm _ | .ldA16Sp _ | .rlca | .rrca | .rla | .rra | .addHl _ | .jr _ | .daa | .cpl
  | .scf | .ccf | .ldRegReg _ _ | .ldRegMem _ | .ldMemReg _ | .addReg _ | .addMem | .adcReg _ | .adcMem | .ldhStore _
  | .ldhLoad _ | .unbound _ => false

/-- The cost a per-opcode table gives; an opcode it does not list costs a free value (log entry 12). -/
def tableCost : List CostRow → Byte → Bool → Nat
  | [], op, _ => Config.unlistedCost op
  | row :: rows, op, taken =>
    if row.opcode = op then (if taken then row.takenCost else row.cost) else tableCost rows op taken

/-- The cycles of the step that runs `i`, `s` being the state the instruction starts from (R363; log entry 8). -/
def stepCost (i : Instr) (s : State) : Nat :=
  match s.launch.cycleCost with
  | .perStep n => n
  | .perOpcode rows => tableCost rows i.opcode (jumpTaken i s)

/-- R364's table of T-states: the cost of each rule's instructions and, for JR cc, the cost when taken. It lists no
unbound opcode. -/
def tStates : Form → Option (Nat × Nat)
  | .nop | .stop | .incReg _ | .decReg _ | .rlca | .rrca | .rla | .rra | .daa | .cpl | .scf | .ccf
  | .ldRegReg _ _ | .addReg _ | .adcReg _ => some (4, 4)
  | .ldIndA _ | .ldAInd _ | .incPair _ | .decPair _ | .ldRegImm _ _ | .addHl _ | .ldRegMem _ | .ldMemReg _
  | .addMem | .adcMem => some (8, 8)
  | .jrCond _ _ => some (8, 12)
  | .ldPairImm _ _ | .incMem | .decMem | .ldMemImm _ | .jr _ | .ldhStore _ | .ldhLoad _ => some (12, 12)
  | .ldA16Sp _ => some (20, 20)
  | .unbound _ => none

/-- R364's table as a setting of CYCLE_COST. -/
def tStateCost : CycleCost :=
  .perOpcode <| (List.range 256).filterMap fun n =>
    match tStates (decodeOperands (BitVec.ofNat 8 n) []).form with
    | some (cost, taken) => some { opcode := BitVec.ofNat 8 n, cost := cost, takenCost := taken }
    | none => none

end Sys2Proof.Machine
end

