-- ==== Sys2Proof/Machine/Cycle.lean ====
section
/-! DEFINITION. Cycle.lean: the CPU step (30_encoding.md R108) and the system step (60_exceptions.md R315). -/

namespace Sys2Proof.Machine

/-- After the CPU step: the PPU advance if it completed, nothing more if it stopped (60_exceptions.md R315). -/
def finishStep (cost : Nat) : Out → Out
  | .next t => .next (advancePpu cost t)
  | .fault f => .fault f
  | .refused r => .refused r

/-- One system step of a machine that is not halted: fetch, run, then advance the PPU by the step's cost (R315). -/
def runStep (s : State) : Out := fetchInstr s fun i t => finishStep (stepCost i t) (exec i t)

/-- One system step. A halted machine takes none: its state stays and it gives its stop again (10_state.md R33,
60_exceptions.md R315; log entry 6). -/
def systemStep (s : State) : Out :=
  match s.haltedBy with
  | .none => runStep s
  | .fault code => .fault (faultOf code s)
  | .refused (.unboundOpcode op) => .refused (.unboundOpcode op s)

end Sys2Proof.Machine
end

