-- ==== Sys2Proof/Machine/Step.lean ====
section
/-! DEFINITION. Step.lean: one step of the machine is one system step (60_exceptions.md R315). -/

namespace Sys2Proof.Machine

/-- One system step (60_exceptions.md R315). -/
def step (s : State) : Host.Outcome State Fault Refusal := systemStep s

/-- The state with a table word placed where its next step fetches (log entry 14). -/
def State.withFetchWord (s : State) (nbits w : Nat) : State := placeAtFetch s (tableWordBytes nbits w)

end Sys2Proof.Machine
end

