-- ==== Sys2Proof/Machine/Launch.lean ====
section
/-! DEFINITION. Launch.lean: how a machine comes to be (70_reset_and_hazards.md R350 to R360, 20_memory.md R70): the
launch premises, the launch from power-on with every drawn value an argument, and the launch from a stated state. -/

namespace Sys2Proof.Machine

/-- EXT_RAM_SIZE by the header byte ROM[0x149]: the table of six entries (20_memory.md R70). -/
def extRamSizeOf (code : Byte) : Option Nat :=
  match code.toNat with
  | 0 => some 0
  | 1 => some 0x800
  | 2 => some 0x2000
  | 3 => some 0x8000
  | 4 => some 0x20000
  | 5 => some 0x10000
  | _ => none

/-- The parameters of a launch besides the two ROMs (00_scope.md R6). -/
structure Params where
  unboundPolicy : UnboundPolicy
  stopLength : StopLength
  cycleCost : CycleCost
  vramBlocking : Bool
deriving DecidableEq, Repr

/-- The defaults the spec chose (00_scope.md R6). -/
def Params.default : Params :=
  { unboundPolicy := .nop, stopLength := .one, cycleCost := .perStep 1, vramBlocking := false }

/-- A start state: everything a launch from a stated state may fix (70_reset_and_hazards.md R360). Of `f` the bits 7 to 4
count; each RAM store is given by its bytes from index 0 on (log entry 18). -/
structure Start where
  a : Byte
  f : Byte
  b : Byte
  c : Byte
  d : Byte
  e : Byte
  h : Byte
  l : Byte
  sp : Word
  pc : Word
  ie : Byte
  bootOff : Bool
  extRam : List Byte
  vram : List Byte
  wram : List Byte
  oam : List Byte
  hram : List Byte
  ppu : Ppu
deriving DecidableEq, Repr

/-- Power-on with the registers, flags, SP, IE and RAM bytes of `drawn` (70_reset_and_hazards.md R350 to R356). -/
def Start.powerOn (drawn : Start) : Start := { drawn with pc := 0x0000#16, bootOff := false, ppu := Ppu.powerOn }

/-- The profile POST_BOOT, IE and RAM as `drawn` at power-on (70_reset_and_hazards.md R360). -/
def Start.postBoot (drawn : Start) : Start :=
  { Start.powerOn drawn with
    bootOff := true, pc := 0x0100#16, a := 0x01#8, f := 0xB0#8, b := 0x00#8, c := 0x13#8, d := 0x00#8, e := 0xD8#8,
    h := 0x01#8, l := 0x4D#8, sp := 0xFFFE#16 }

/-- Why a launch is refused: no machine exists and no step runs (60_exceptions.md R304, 70_reset_and_hazards.md R358). -/
inductive LaunchError where
  /-- BOOT_ROM is absent or not exactly 256 bytes long. -/
  | bootRomLength
  /-- ROM is absent or shorter than 0x14D bytes. -/
  | romTooShort
  /-- ROM is longer than 0x10000 bytes. -/
  | romTooLong
  /-- ROM[0x149] has no entry in the table of external RAM sizes. -/
  | ramSizeCode (code : Byte)
deriving DecidableEq, Repr

/-- The launched machine (70_reset_and_hazards.md R350 to R357, R360), `extRamSize` being the header's table entry. -/
def launched (bootRom rom : List Byte) (extRamSize : Nat) (p : Params) (st : Start) : State :=
  { a := st.a, b := st.b, c := st.c, d := st.d, e := st.e, h := st.h, l := st.l, flags := Flags.ofByte st.f,
    sp := st.sp, pc := st.pc, ie := st.ie, bootOff := st.bootOff,
    extRam := Memory.ofBytes extRamSize st.extRam, vram := Memory.ofBytes Config.vramSize st.vram,
    wram := Memory.ofBytes Config.wramSize st.wram, oam := Memory.ofBytes Config.oamSize st.oam,
    hram := Memory.ofBytes Config.hramSize st.hram, ppu := st.ppu,
    launch :=
      { bootRom := Memory.ofBytes Config.bootRomSize bootRom, rom := Memory.ofBytes rom.length rom,
        romSize := rom.length, extRamSize := extRamSize, unboundPolicy := p.unboundPolicy,
        stopLength := p.stopLength, cycleCost := p.cycleCost, vramBlocking := p.vramBlocking },
    haltedBy := .none, draws := 0 }

/-- A launch: admitted when the premises of 70_reset_and_hazards.md R358 hold, else a launch error, the first of the
premises that fails (log entry 19). -/
def launch (bootRom rom : List Byte) (p : Params) (st : Start) : Except LaunchError State :=
  if bootRom.length ≠ Config.bootRomSize then .error .bootRomLength
  else if rom.length < Config.minRomSize then .error .romTooShort
  else if Config.maxRomSize < rom.length then .error .romTooLong
  else
    match extRamSizeOf (rom.getD 0x149 0x00#8) with
    | some size => .ok (launched bootRom rom size p st)
    | none => .error (.ramSizeCode (rom.getD 0x149 0x00#8))

end Sys2Proof.Machine
end

