-- ==== Sys2Proof/Machine/Run.lean ====
section
/-! DEFINITION. Run.lean: a run and its end (60_exceptions.md R316): it ends normally at the first system-step boundary
where PC is END_PC, or the host stops it between two system steps; a fault or a refusal is no normal end. -/

namespace Sys2Proof.Machine

/-- How a run ends (R316): `ended` and `stoppedByHost` are its normal ends, a fault or a refusal is none. -/
inductive RunEnd where
  | ended (s : State)
  | stoppedByHost (s : State)
  | fault (f : Fault)
  | refused (r : Refusal)
deriving DecidableEq, Repr

/-- How a run to END_PC has ended at a system-step boundary, if it has without the host. A boundary whose mark is already
set occurs only where a run is given such a state, which no launch does (70_reset_and_hazards.md R357): that it has ended
there with the mark's stop, and not normally, is the model's choice (DESIGN CHOICE, log entry 20). -/
def endAt (endPc : Word) (s : State) : Option RunEnd :=
  match s.haltedBy with
  | .none => if s.pc = endPc then some (.ended s) else none
  | .fault code => some (.fault (faultOf code s))
  | .refused (.unboundOpcode op) => some (.refused (.unboundOpcode op s))

/-- The run to END_PC that the host's quit signal ends after `quit` system steps if nothing ended it before (R316; log
entry 16: the boundary before the first step counts; log entry 20: a run given a state whose mark is set). -/
def runTo (endPc : Word) : Nat → State → RunEnd
  | 0, s => (endAt endPc s).getD (.stoppedByHost s)
  | quit + 1, s =>
    match endAt endPc s with
    | some e => e
    | none =>
      match step s with
      | .next t => runTo endPc quit t
      | .fault f => .fault f
      | .refused r => .refused r

end Sys2Proof.Machine
end

