-- ==== Sys2Proof/Safety.lean ====
section
/-! DEFINITION. Safety.lean: the states a launched machine can be in, what a step fetches, and what counts as a safe
run. -/

namespace Sys2Proof.Machine

/-- The RAM stores are canonical and hold no byte beyond their size (10_state.md R31). -/
abbrev State.StoresOk (s : State) : Prop :=
  (Memory.wf s.extRam = true ∧ Memory.fits s.launch.extRamSize s.extRam = true) ∧
  (Memory.wf s.vram = true ∧ Memory.fits Config.vramSize s.vram = true) ∧
  (Memory.wf s.wram = true ∧ Memory.fits Config.wramSize s.wram = true) ∧
  (Memory.wf s.oam = true ∧ Memory.fits Config.oamSize s.oam = true) ∧
  (Memory.wf s.hram = true ∧ Memory.fits Config.hramSize s.hram = true)

/-- What the launch fixed meets the launch premises (70_reset_and_hazards.md R358) and the header table (20_memory.md
R70). -/
abbrev Launch.Ok (n : Launch) : Prop :=
  (Memory.wf n.bootRom = true ∧ Memory.fits Config.bootRomSize n.bootRom = true) ∧
  (Memory.wf n.rom = true ∧ Memory.fits n.romSize n.rom = true) ∧
  (Config.minRomSize ≤ n.romSize ∧ n.romSize ≤ Config.maxRomSize) ∧
  extRamSizeOf (Memory.read n.rom 0x149) = some n.extRamSize

/-- Between two system steps the mode clock is below the mode's budget, and the line is 144 exactly in VBLANK, else below
144 (10_state.md R32, 60_exceptions.md R311, R312). -/
abbrev Ppu.Ok (p : Ppu) : Prop :=
  p.modeClock < p.mode.budget ∧
  (if p.mode = .vblank then p.line = Config.visibleLines else p.line < Config.visibleLines)

/-- The cycles of a frame (60_exceptions.md R310). -/
def frameCycles : Nat := 70224

/-- The cycle of the frame the PPU is at, from its mode, line and mode clock (60_exceptions.md R313). -/
def Ppu.frameCycle (p : Ppu) : Nat :=
  match p.mode with
  | .oamScan => 456 * p.line + p.modeClock
  | .vramAccess => 456 * p.line + 80 + p.modeClock
  | .hblank => 456 * p.line + 252 + p.modeClock
  | .vblank => 65664 + p.modeClock

/-- A state of a launched machine: what every launch establishes and every step keeps. -/
structure State.Inv (s : State) : Prop where
  stores : s.StoresOk
  launch : s.launch.Ok
  ppu : s.ppu.Ok

/-- `got` are the bytes that fetching from PC gives, one after the other, and `u` is the machine after them: each a
stored byte or a draw, PC moved past each (00_scope.md R11). That a draw is the next byte of `Config.drawByte` and moves
the counter is the model's choice (log entry 5). -/
def Fetches : State → List Byte → State → Prop
  | s, [], u => u = s
  | s, v :: vs, u =>
    (busRead s s.pc = .byte v ∧ Fetches { s with pc := s.pc + 1#16 } vs u) ∨
    (busRead s s.pc = .draw ∧ v = Config.drawByte s.draws ∧
      Fetches { s with pc := s.pc + 1#16, draws := s.draws + 1 } vs u)

/-- How many of the `n` addresses from `addr` on, modulo 2^16, a read draws at. -/
def drawsFrom (s : State) : Word → Nat → Nat
  | _, 0 => 0
  | addr, n + 1 => (if busRead s addr = .draw then 1 else 0) + drawsFrom s (addr + 1#16) n

/-- `got` is not yet a whole instruction: empty, or an opcode byte with fewer bytes after it than it calls for. -/
def PartOfInstruction (stopLength : StopLength) : List Byte → Prop
  | [] => True
  | op :: rest => rest.length < operandCount stopLength op

/-- The states some number of system steps away. -/
inductive Reaches : State → State → Prop where
  | here (s : State) : Reaches s s
  | step {s t u : State} (before : Reaches s t) (next : Machine.step t = .next u) : Reaches s u

/-- A safe state: no run from it stops with a fault or a refusal. -/
def State.Safe (s : State) : Prop := ∀ t, Reaches s t → ∃ u, step t = .next u

end Sys2Proof.Machine
end

