-- ==== Sys2Proof/WellFormed.lean ====
section
/-! DEFINITION. WellFormed.lean: which instruction terms stand for words of the hardware. Byte and word operands are
right by their types; the signed offset of JR r8 and JR cc,r8 is an integer and must lie in -128 to 127 (30_encoding.md
R106; log entry 11). -/

namespace Sys2Proof

/-- The range of the signed offset `r8` (30_encoding.md R106). -/
def offsetInRange (e : Int) : Bool := decide (-128 ≤ e) && decide (e ≤ 127)

/-- An instruction is well formed when its signed offset, if it has one, is in range. -/
def Instr.wf : Instr → Bool
  | .jrR8 e => offsetInRange e
  | .jrNzR8 e => offsetInRange e
  | .jrZR8 e => offsetInRange e
  | .jrNcR8 e => offsetInRange e
  | .jrCR8 e => offsetInRange e
  | .ldBD8 _ | .ldCD8 _ | .ldDD8 _ | .ldED8 _ | .ldHD8 _ | .ldLD8 _
  | .ldIndHlD8 _ | .ldAD8 _ => true
  | .ldhA8A _ | .ldhAA8 _ => true
  | .ldBcD16 _ | .ldA16Sp _ | .ldDeD16 _ | .ldHlD16 _ | .ldSpD16 _ => true
  | .nop | .ldIndBcA | .incBc | .incB | .decB | .rlca | .addHlBc | .ldAIndBc
  | .decBc | .incC | .decC | .rrca | .stop | .ldIndDeA | .incDe | .incD
  | .decD | .rla | .addHlDe | .ldAIndDe | .decDe | .incE | .decE | .rra
  | .ldHliA | .incHl | .incH | .decH | .daa | .addHlHl | .ldAHli | .decHl
  | .incL | .decL | .cpl | .ldHldA | .incSp | .incIndHl | .decIndHl | .scf
  | .addHlSp | .ldAHld | .decSp | .incA | .decA | .ccf | .ldBB | .ldBC
  | .ldBD | .ldBE | .ldBH | .ldBL | .ldBIndHl | .ldBA | .ldCB | .ldCC
  | .ldCD | .ldCE | .ldCH | .ldCL | .ldCIndHl | .ldCA | .ldDB | .ldDC
  | .ldDD | .ldDE | .ldDH | .ldDL | .ldDIndHl | .ldDA | .ldEB | .ldEC
  | .ldED | .ldEE | .ldEH | .ldEL | .ldEIndHl | .ldEA | .ldHB | .ldHC
  | .ldHD | .ldHE | .ldHH | .ldHL | .ldHIndHl | .ldHA | .ldLB | .ldLC
  | .ldLD | .ldLE | .ldLH | .ldLL | .ldLIndHl | .ldLA | .ldIndHlB | .ldIndHlC
  | .ldIndHlD | .ldIndHlE | .ldIndHlH | .ldIndHlL | .unbound76 | .ldIndHlA | .ldAB | .ldAC
  | .ldAD | .ldAE | .ldAH | .ldAL | .ldAIndHl | .ldAA | .addAB | .addAC
  | .addAD | .addAE | .addAH | .addAL | .addAIndHl | .addAA | .adcAB | .adcAC
  | .adcAD | .adcAE | .adcAH | .adcAL | .adcAIndHl | .adcAA | .unbound90 | .unbound91
  | .unbound92 | .unbound93 | .unbound94 | .unbound95 | .unbound96 | .unbound97 | .unbound98 | .unbound99
  | .unbound9A | .unbound9B | .unbound9C | .unbound9D | .unbound9E | .unbound9F | .unboundA0 | .unboundA1
  | .unboundA2 | .unboundA3 | .unboundA4 | .unboundA5 | .unboundA6 | .unboundA7 | .unboundA8 | .unboundA9
  | .unboundAA | .unboundAB | .unboundAC | .unboundAD | .unboundAE | .unboundAF | .unboundB0 | .unboundB1
  | .unboundB2 | .unboundB3 | .unboundB4 | .unboundB5 | .unboundB6 | .unboundB7 | .unboundB8 | .unboundB9
  | .unboundBA | .unboundBB | .unboundBC | .unboundBD | .unboundBE | .unboundBF | .unboundC0 | .unboundC1
  | .unboundC2 | .unboundC3 | .unboundC4 | .unboundC5 | .unboundC6 | .unboundC7 | .unboundC8 | .unboundC9
  | .unboundCA | .unboundCB | .unboundCC | .unboundCD | .unboundCE | .unboundCF | .unboundD0 | .unboundD1
  | .unboundD2 | .unboundD3 | .unboundD4 | .unboundD5 | .unboundD6 | .unboundD7 | .unboundD8 | .unboundD9
  | .unboundDA | .unboundDB | .unboundDC | .unboundDD | .unboundDE | .unboundDF | .unboundE1 | .unboundE2
  | .unboundE3 | .unboundE4 | .unboundE5 | .unboundE6 | .unboundE7 | .unboundE8 | .unboundE9 | .unboundEA
  | .unboundEB | .unboundEC | .unboundED | .unboundEE | .unboundEF | .unboundF1 | .unboundF2 | .unboundF3
  | .unboundF4 | .unboundF5 | .unboundF6 | .unboundF7 | .unboundF8 | .unboundF9 | .unboundFA | .unboundFB
  | .unboundFC | .unboundFD | .unboundFE | .unboundFF => true

end Sys2Proof
end

