-- ==== Sys2Proof/Certificates/Slice0/Obligations.lean ====
section
/-! DEFINITION. Obligations.lean: the statements for the provers, from the numbered rules of spec/. The tables at the
top say, by instruction rule, what R25 of 10_state.md and the rules of 40_loads.md to 46_misc.md let an instruction
write. -/

namespace Sys2Proof.Claims

open Sys2Proof Sys2Proof.Machine

/-- The bytes at an address and after it, modulo 2^16, each read from a store (no draw, no fault). -/
def BytesAt (s : State) : Word → List Byte → Prop
  | _, [] => True
  | addr, v :: vs => busRead s addr = .byte v ∧ BytesAt s (addr + 1#16) vs

/-- The opcode bytes that no rule binds (30_encoding.md R109). -/
def unboundByte (op : Byte) : Bool :=
  decide (op = 0x76#8) || (decide (0x90 ≤ op.toNat) && decide (op ≠ 0xE0#8) && decide (op ≠ 0xF0#8))

/-- The machine stopped by CART_RANGE at `addr` and otherwise as `s` (60_exceptions.md R302). -/
def stoppedAt (s : State) (addr : Word) : State := { s with haltedBy := .fault (.cartRange addr) }

/-- When one of the operand fetches of the opcode `op` is the first to read beyond the ROM, the step faults there: PC is
that operand byte's address and nothing else has changed (30_encoding.md R107, 60_exceptions.md R307). -/
def OperandFetchFaults (op : Byte) : Prop :=
  ∀ (s : State) (got : List Byte) (addr : Word),
    s.haltedBy = .none → BytesAt s s.pc (op :: got) → got.length < operandCount s.launch.stopLength op →
    addr = s.pc + 1#16 + BitVec.ofNat 16 got.length → busRead s addr = .beyondRom →
    step s = .fault (.cartRange addr (stoppedAt { s with pc := addr } addr))

/-- The opcode is a conditional jump's and its condition holds (44_jumps.md R210, R212). -/
def jumpsOn (op : Byte) (f : Flags) : Bool :=
  (decide (op = 0x20#8) && !f.z) || (decide (op = 0x28#8) && f.z) || (decide (op = 0x30#8) && !f.c) ||
    (decide (op = 0x38#8) && f.c)

/-- A step at the two stored bytes of the relative jump `i`: PC is the jump's address plus 2, plus the sign-extended
operand byte where the jump is taken, and only the PPU is advanced besides (44_jumps.md R211, R212). -/
def StepJumps (i : Instr) (op e : Byte) (taken : Flags → Bool) : Prop :=
  ∀ s : State, s.haltedBy = .none → BytesAt s s.pc [op, e] →
    step s = .next (advancePpu (stepCost i { s with pc := s.pc + 2#16 })
      { s with pc := if taken s.flags then s.pc + 2#16 + e.signExtend 16 else s.pc + 2#16 })

/-- An instruction that reads `addr` once and goes on as `k` with the byte read: a stored byte, or a drawn one, or the
fault of a read beyond the ROM, which leaves everything as it was (20_memory.md R56, 00_scope.md R12). That a draw is
the next byte of `Config.drawByte` and moves the counter is the model's choice (log entry 5). -/
def GoesOnWithRead (s : State) (addr : Word) (k : Byte → State → State) (out : Out) : Prop :=
  (∀ v, busRead s addr = .byte v → out = .next (k v s)) ∧
  (busRead s addr = .draw → out = .next (k (Config.drawByte s.draws) { s with draws := s.draws + 1 })) ∧
  (busRead s addr = .beyondRom → out = .fault (.cartRange addr (stoppedAt s addr)))

/-- The bytes of an instruction, whatever STOP_LENGTH is. -/
def EncodedAs (i : Instr) (bytes : List Byte) : Prop := ∀ n, encode n i = bytes

/-- The byte registers of a pair. -/
def pairRegs : Pair → List Reg8
  | .bc => [.b, .c]
  | .de => [.d, .e]
  | .hl => [.h, .l]
  | .sp => []

/-- The byte registers an indirect operand moves. -/
def indirectRegs : Indirect → List Reg8
  | .bc | .de => []
  | .hli | .hld => [.h, .l]

/-- The byte registers a rule may write (10_state.md R25). -/
def destRegs : Form → List Reg8
  | .ldPairImm p _ | .incPair p | .decPair p => pairRegs p
  | .ldIndA i => indirectRegs i
  | .ldAInd i => .a :: indirectRegs i
  | .incReg r | .decReg r | .ldRegImm r _ | .ldRegReg r _ | .ldRegMem r => [r]
  | .addHl _ => [.h, .l]
  | .rlca | .rrca | .rla | .rra | .daa | .cpl | .addReg _ | .addMem | .adcReg _ | .adcMem | .ldhLoad _ => [.a]
  | .nop | .stop | .incMem | .decMem | .ldMemImm _ | .ldA16Sp _ | .jr _ | .jrCond _ _ | .scf | .ccf | .ldMemReg _
  | .ldhStore _ | .unbound _ => []

/-- A rule may write SP (10_state.md R25). -/
def writesSp : Form → Bool
  | .ldPairImm p _ | .incPair p | .decPair p => decide (p = .sp)
  | .nop | .stop | .ldIndA _ | .ldAInd _ | .incReg _ | .incMem | .decReg _ | .decMem | .ldRegImm _ _ | .ldMemImm _
  | .ldA16Sp _ | .rlca | .rrca | .rla | .rra | .addHl _ | .jr _ | .jrCond _ _ | .daa | .cpl | .scf | .ccf
  | .ldRegReg _ _ | .ldRegMem _ | .ldMemReg _ | .addReg _ | .addMem | .adcReg _ | .adcMem | .ldhStore _ | .ldhLoad _
  | .unbound _ => false

/-- A rule writes PC itself, beyond the fetches (10_state.md R25). -/
def isJump : Form → Bool
  | .jr _ | .jrCond _ _ => true
  | .nop | .stop | .ldPairImm _ _ | .ldIndA _ | .ldAInd _ | .incPair _ | .decPair _ | .incReg _ | .incMem | .decReg _
  | .decMem | .ldRegImm _ _ | .ldMemImm _ | .ldA16Sp _ | .rlca | .rrca | .rla | .rra | .addHl _ | .daa | .cpl | .scf
  | .ccf | .ldRegReg _ _ | .ldRegMem _ | .ldMemReg _ | .addReg _ | .addMem | .adcReg _ | .adcMem | .ldhStore _
  | .ldhLoad _ | .unbound _ => false

/-- The flags a rule writes, true for each it may change. -/
def flagsWritten : Form → Flags
  | .incReg _ | .incMem | .decReg _ | .decMem => { z := true, n := true, h := true, c := false }
  | .rlca | .rrca | .rla | .rra | .addReg _ | .addMem | .adcReg _ | .adcMem =>
    { z := true, n := true, h := true, c := true }
  | .addHl _ | .scf | .ccf => { z := false, n := true, h := true, c := true }
  | .daa => { z := true, n := false, h := true, c := true }
  | .cpl => { z := false, n := true, h := true, c := false }
  | .nop | .stop | .ldPairImm _ _ | .ldIndA _ | .ldAInd _ | .incPair _ | .decPair _ | .ldRegImm _ _ | .ldMemImm _
  | .ldA16Sp _ | .jr _ | .jrCond _ _ | .ldRegReg _ _ | .ldRegMem _ | .ldMemReg _ | .ldhStore _ | .ldhLoad _
  | .unbound _ => { z := false, n := false, h := false, c := false }

/-- The addresses a rule stores to, by the functions its meaning applies to the same state. -/
def storedTo (s : State) : Form → List Word
  | .ldIndA i => [s.indirect i]
  | .incMem | .decMem | .ldMemImm _ | .ldMemReg _ => [s.pair .hl]
  | .ldA16Sp addr => [addr, addr + 1#16]
  | .ldhStore o => [zeroPage o]
  | .nop | .stop | .ldPairImm _ _ | .ldAInd _ | .incPair _ | .decPair _ | .incReg _ | .decReg _ | .ldRegImm _ _ | .rlca
  | .rrca | .rla | .rra | .addHl _ | .jr _ | .jrCond _ _ | .daa | .cpl | .scf | .ccf | .ldRegReg _ _ | .ldRegMem _
  | .addReg _ | .addMem | .adcReg _ | .adcMem | .ldhLoad _ | .unbound _ => []

/-- The address a rule reads its data from, beyond the instruction's own bytes; none if it reads no data. -/
def readFrom (s : State) : Form → Option Word
  | .ldAInd i => some (s.indirect i)
  | .incMem | .decMem | .ldRegMem _ | .addMem | .adcMem => some (s.pair .hl)
  | .ldhLoad o => some (zeroPage o)
  | .nop | .stop | .ldPairImm _ _ | .ldIndA _ | .incPair _ | .decPair _ | .incReg _ | .decReg _ | .ldRegImm _ _
  | .ldMemImm _ | .ldA16Sp _ | .rlca | .rrca | .rla | .rra | .addHl _ | .jr _ | .jrCond _ _ | .daa | .cpl | .scf | .ccf
  | .ldRegReg _ _ | .ldMemReg _ | .addReg _ | .adcReg _ | .ldhStore _ | .unbound _ => none

/-- A store to `addr` cannot change what a read of `b` gives: they name different bytes (the echo aliases WRAM,
20_memory.md R62), and `b` is not in the boot-ROM overlay when the store is the one that disables it (R54, R66). -/
def Untouched (addr b : Word) : Prop := unecho b ≠ unecho addr ∧ (addr = 0xFF50#16 → 0x0100 ≤ b.toNat)

/-- Where a frame of 70,224 cycles has its modes and lines (60_exceptions.md R313): cycle `n` of the frame. -/
def ModeAt (n : Nat) (p : Ppu) : Prop :=
  if 65664 ≤ n then p.mode = .vblank ∧ p.line = 144
  else p.line = n / 456 ∧
    (if n % 456 < 80 then p.mode = .oamScan else if n % 456 < 252 then p.mode = .vramAccess else p.mode = .hblank)

/-- The byte of a two-digit decimal number in BCD. -/
def bcd (n : Nat) : Byte := BitVec.ofNat 8 (n / 10 * 16 + n % 10)

end Sys2Proof.Claims

open Sys2Proof Sys2Proof.Machine Sys2Proof.Claims

/-! ### Encoding -/

/-- 30_encoding.md R100 to R106, R113: no bit of an encoding is dropped. -/
def Obligations.DecodeOfEncodeIsTheInstruction : Prop :=
  ∀ (stopLength : StopLength) (i : Instr) (rest : List Byte), i.wf = true →
    decode stopLength (encode stopLength i ++ rest) = .ok (i, rest)

/-- 30_encoding.md R100, R112: every decoded instruction is well formed and was written with exactly its own bytes (but
for the byte STOP discards when STOP_LENGTH is 2). -/
def Obligations.EncodeOfDecodeIsTheBytes : Prop :=
  ∀ (stopLength : StopLength) (bytes : List Byte) (i : Instr) (rest : List Byte),
    decode stopLength bytes = .ok (i, rest) →
    i.wf = true ∧ ((stopLength = .one ∨ i ≠ .stop) → encode stopLength i ++ rest = bytes)

/-- 30_encoding.md R112: no byte is refused for its value; decoding fails only for want of bytes. -/
def Obligations.DecodeFailsOnlyOnMissingBytes : Prop :=
  (∀ stopLength, decode stopLength [] = .error .noBytes) ∧
  ∀ (stopLength : StopLength) (op : Byte) (rest : List Byte),
    (rest.length < operandCount stopLength op → decode stopLength (op :: rest) = .error (.truncated op)) ∧
    (operandCount stopLength op ≤ rest.length →
      ∃ i, decode stopLength (op :: rest) = .ok (i, rest.drop (operandCount stopLength op)))

/-- Words written out from the bit patterns of 30_encoding.md R113, one or more of each family. -/
def Obligations.SampleWordsDecode : Prop :=
  decode .one [0b00000001#8, 0x34#8, 0x12#8] = .ok (.ldBcD16 0x1234#16, []) ∧
  decode .one [0b00001000#8, 0x10#8, 0xC0#8] = .ok (.ldA16Sp 0xC010#16, []) ∧
  decode .one [0b00110010#8] = .ok (.ldHldA, []) ∧
  decode .one [0b00011110#8, 0x7F#8] = .ok (.ldED8 0x7F#8, []) ∧
  decode .one [0b01100110#8] = .ok (.ldHIndHl, []) ∧
  decode .one [0b01110001#8] = .ok (.ldIndHlC, []) ∧
  decode .one [0b11110000#8, 0x80#8] = .ok (.ldhAA8 0x80#8, []) ∧
  decode .one [0b00110011#8] = .ok (.incSp, []) ∧
  decode .one [0b00101101#8] = .ok (.decL, []) ∧
  decode .one [0b00011111#8] = .ok (.rra, []) ∧
  decode .one [0b00111001#8] = .ok (.addHlSp, []) ∧
  decode .one [0b10001110#8] = .ok (.adcAIndHl, []) ∧
  decode .one [0b00011000#8, 0xFE#8] = .ok (.jrR8 (-2), []) ∧
  decode .one [0b00111000#8, 0x7F#8] = .ok (.jrCR8 127, []) ∧
  decode .one [0b00100111#8] = .ok (.daa, []) ∧
  decode .two [0b00010000#8, 0x3C#8] = .ok (.stop, []) ∧
  decode .one [0b01110110#8] = .ok (.unbound76, [])

/-- 30_encoding.md R109: an opcode byte decodes to an unbound instruction exactly when it is one of the 111 unbound
bytes, and then to the one of that byte; every rule and operand has an instruction, so that a statement about a rule's
form is about instructions that exist. -/
def Obligations.UnboundBytesAndRuleForms : Prop :=
  (∀ op o1 o2 : Byte, unboundByte op = true ↔ (decodeInstr op o1 o2).form = .unbound op) ∧
  (((List.range 256).filter fun n => !unboundByte (BitVec.ofNat 8 n)).length = 145) ∧
  (∀ f : Form, (∀ op, f = .unbound op → unboundByte op = true) → ∃ i : Instr, i.form = f)

/-! ### The step -/

/-- 30_encoding.md R108 and 60_exceptions.md R315: a step runs the instruction that the bytes fetched from PC on decode to,
with PC moved past them, and then, if it completed, advances the PPU to `total + cost` (what `stepCost` is:
StepKeepsThePpuInPhase); a step that stops advances nothing. (A drawn byte moves the counter of draws, log entry 5.) -/
def Obligations.StepRunsTheDecodedInstruction : Prop :=
  ∀ (s : State) (bytes : List Byte) (i : Instr) (u : State),
    s.haltedBy = .none → Fetches s bytes u → decode s.launch.stopLength bytes = .ok (i, []) →
    u = { s with pc := s.pc + BitVec.ofNat 16 bytes.length, draws := s.draws + drawsFrom s s.pc bytes.length } ∧
    (∀ t, exec i u = .next t → step s = .next { t with ppu := t.ppu.cycle (t.ppu.total + stepCost i u) }) ∧
    (∀ f, exec i u = .fault f → step s = .fault f) ∧
    (∀ r, exec i u = .refused r → step s = .refused r)

/-- 10_state.md R33, 60_exceptions.md R315: a halted machine takes no step. What the model answers for it, the same stop
again with the state unchanged, is the model's choice (log entry 6). -/
def Obligations.HaltedMachineTakesNoStep : Prop :=
  ∀ s : State,
    (∀ addr, s.haltedBy = .fault (.cartRange addr) → step s = .fault (.cartRange addr s)) ∧
    (s.haltedBy = .fault .noHandler → step s = .fault (.noHandler s)) ∧
    (s.haltedBy = .fault .ppuUnreachable → step s = .fault (.ppuUnreachable s)) ∧
    (∀ op, s.haltedBy = .refused (.unboundOpcode op) → step s = .refused (.unboundOpcode op s))

/-- 60_exceptions.md R302, R307, 30_encoding.md R107: a fetch beyond the ROM stops the step there, PC at the byte that
could not be fetched, for the opcode byte and for every operand byte. -/
def Obligations.FetchFaultIsPrecise : Prop :=
  (∀ s : State, s.haltedBy = .none → busRead s s.pc = .beyondRom →
    step s = .fault (.cartRange s.pc (stoppedAt s s.pc))) ∧
  ∀ op : Byte, OperandFetchFaults op

/-- 60_exceptions.md R301, R302, R307: the only fault a step of a running machine can raise is CART_RANGE, at an address
of the ROM window not below ROM_SIZE that reads beyond the ROM. The bytes fetched until then are `got`, at most three: PC
is the address after the last of them, the stopped machine carries the mark, and no register, flag, store or PPU state
has moved. The faulting address is either the next byte of an instruction not yet whole, or the data address of the
whole instruction. (The counter of draws, log entry 5, has moved by the drawn bytes among `got`.) -/
def Obligations.EveryFaultIsAPreciseCartRange : Prop :=
  ∀ (s : State) (f : Fault), s.haltedBy = .none → step s = .fault f →
    ∃ (got : List Byte) (u : State) (addr : Word),
      Fetches s got u ∧ got.length ≤ 3 ∧
      u = { s with pc := s.pc + BitVec.ofNat 16 got.length, draws := s.draws + drawsFrom s s.pc got.length } ∧
      addr.toNat ≤ 0x7FFF ∧ s.launch.romSize ≤ addr.toNat ∧ busRead s addr = .beyondRom ∧
      f = .cartRange addr (stoppedAt u addr) ∧
      ((PartOfInstruction s.launch.stopLength got ∧ addr = u.pc) ∨
        ∃ i, decode s.launch.stopLength got = .ok (i, []) ∧ readFrom u i.form = some addr)

/-- 60_exceptions.md R303, R306: a step of a running machine is refused only under UNBOUND_POLICY refuse, for an unbound
opcode, after the opcode fetch and before anything else. (An opcode that is a draw moves the counter, log entry 5.) -/
def Obligations.RefusalOnlyForUnboundUnderRefuse : Prop :=
  ∀ (s : State) (r : Refusal), s.haltedBy = .none → step s = .refused r →
    s.launch.unboundPolicy = .refuse ∧
    ∃ (op : Byte) (u : State), unboundByte op = true ∧ Fetches s [op] u ∧
      u = { s with pc := s.pc + 1#16, draws := s.draws + drawsFrom s s.pc 1 } ∧
      r = .unboundOpcode op { u with haltedBy := .refused (.unboundOpcode op) }

/-- 10_state.md R27, 30_encoding.md R100: after a step that completes, PC has moved past the instruction's bytes, as many
as the opcode byte it fetched calls for, unless the instruction is a relative jump. -/
def Obligations.PcMovesPastTheInstruction : Prop :=
  ∀ (s t u : State) (op : Byte), Fetches s [op] u →
    (∀ o1 o2, isJump (decodeInstr op o1 o2).form = false) → step s = .next t →
    t.pc = s.pc + 1#16 + BitVec.ofNat 16 (operandCount s.launch.stopLength op)

/-! ### Registers and flags -/

/-- 10_state.md R20, R21: writing a byte register or a pair is seen by reading it, changes the pair or the bytes it
belongs to, and leaves every other register, the flags, IE, memory, the PPU and the launch unchanged. -/
def Obligations.RegisterFileWrites : Prop :=
  (∀ (s : State) (r : Reg8) (v : Byte),
    (s.setReg r v).reg r = v ∧ (∀ q, q ≠ r → (s.setReg r v).reg q = s.reg q) ∧
    { s.setReg r v with a := s.a, b := s.b, c := s.c, d := s.d, e := s.e, h := s.h, l := s.l } = s) ∧
  (∀ s : State, s.pair .bc = wordOf (s.reg .b) (s.reg .c) ∧ s.pair .de = wordOf (s.reg .d) (s.reg .e) ∧
    s.pair .hl = wordOf (s.reg .h) (s.reg .l) ∧ s.pair .sp = s.sp) ∧
  (∀ (s : State) (p : Pair) (v : Word),
    (s.setPair p v).pair p = v ∧ (∀ q, q ≠ p → (s.setPair p v).pair q = s.pair q) ∧
    (∀ r, r ∉ pairRegs p → (s.setPair p v).reg r = s.reg r) ∧
    { s.setPair p v with a := s.a, b := s.b, c := s.c, d := s.d, e := s.e, h := s.h, l := s.l, sp := s.sp } = s) ∧
  (∀ hi lo : Byte, (wordOf hi lo).toNat = hi.toNat * 256 + lo.toNat)

/-- 10_state.md R21 to R24: F is Z, N, H, C in its bits 7 to 4 and 0 in its bits 3 to 0, AF is A:F, and writing F or AF
stores the four flags. That bits 3 to 0 are not stored is the spec's decision D22. -/
def Obligations.FlagByteLayout : Prop :=
  ∀ s : State,
    (s.f.getLsbD 7 = s.flags.z ∧ s.f.getLsbD 6 = s.flags.n ∧ s.f.getLsbD 5 = s.flags.h ∧ s.f.getLsbD 4 = s.flags.c ∧
      s.f &&& 0x0F#8 = 0x00#8) ∧
    s.af = wordOf s.a s.f ∧
    (∀ v, (s.setF v).f = v &&& 0xF0#8 ∧ { s.setF v with flags := s.flags } = s) ∧
    (∀ v, (s.setAf v).af = v &&& 0xFFF0#16 ∧ { s.setAf v with a := s.a, flags := s.flags } = s)

/-- 10_state.md R25 and the 'Flags' lines of the instruction rules: an instruction that completes changes no byte
register but its destinations, SP, PC and each flag only if its rule writes it, and never the PPU, the launch or the
mark. -/
def Obligations.RegisterAndFlagFrame : Prop :=
  ∀ (i : Instr) (s t : State), exec i s = .next t →
    (∀ r, r ∉ destRegs i.form → t.reg r = s.reg r) ∧
    (writesSp i.form = false → t.sp = s.sp) ∧
    (isJump i.form = false → t.pc = s.pc) ∧
    ((flagsWritten i.form).z = false → t.flags.z = s.flags.z) ∧
    ((flagsWritten i.form).n = false → t.flags.n = s.flags.n) ∧
    ((flagsWritten i.form).h = false → t.flags.h = s.flags.h) ∧
    ((flagsWritten i.form).c = false → t.flags.c = s.flags.c) ∧
    t.ppu = s.ppu ∧ t.launch = s.launch ∧ t.haltedBy = s.haltedBy

/-- 20_memory.md R74, R76 and the instruction rules: an instruction that completes changes no byte of memory but those
it stores to: every address outside them reads as before (all of memory for a form that stores nothing); each RAM store
itself is unchanged unless an address stored to lies in its range, and so is every byte of VRAM at an address not stored
to, whether or not VRAM reads are blocked (R59); IE changes only by a store to 0xFFFF, BOOT_OFF only by a store to
0xFF50, and the counter of draws (log entry 5) moves only for a form that reads data from an address whose read is a
draw, by one. -/
def Obligations.MemoryFrame : Prop :=
  ∀ (i : Instr) (s t : State), exec i s = .next t →
    (∀ b, (∀ addr ∈ storedTo s i.form, Untouched addr b) → busRead t b = busRead s b) ∧
    ((∀ addr ∈ storedTo s i.form, addr.toNat < 0x8000 ∨ 0x9FFF < addr.toNat) → t.vram = s.vram) ∧
    (∀ b : Word, 0x8000 ≤ b.toNat → b.toNat ≤ 0x9FFF → b ∉ storedTo s i.form →
      Memory.read t.vram (b.toNat - 0x8000) = Memory.read s.vram (b.toNat - 0x8000)) ∧
    ((∀ addr ∈ storedTo s i.form, addr.toNat < 0xA000 ∨ 0xBFFF < addr.toNat) → t.extRam = s.extRam) ∧
    ((∀ addr ∈ storedTo s i.form, addr.toNat < 0xC000 ∨ 0xFDFF < addr.toNat) → t.wram = s.wram) ∧
    ((∀ addr ∈ storedTo s i.form, addr.toNat < 0xFE00 ∨ 0xFE9F < addr.toNat) → t.oam = s.oam) ∧
    ((∀ addr ∈ storedTo s i.form, addr.toNat < 0xFF80 ∨ 0xFFFE < addr.toNat) → t.hram = s.hram) ∧
    (0xFFFF#16 ∉ storedTo s i.form → t.ie = s.ie) ∧
    (0xFF50#16 ∉ storedTo s i.form → t.bootOff = s.bootOff) ∧
    t.draws = s.draws + (match readFrom s i.form with
      | some addr => if busRead s addr = .draw then 1 else 0
      | none => 0)

/-! ### Loads -/

/-- 40_loads.md R130. -/
def Obligations.LdPairImmediate : Prop :=
  ∀ (i : Instr) (p : Pair) (v : Word), i.form = .ldPairImm p v →
    EncodedAs i [0b00#2 ++ p.code ++ 0b0001#4, lowByte v, highByte v] ∧
    (∀ s, exec i s = .next (s.setPair p v)) ∧
    OperandFetchFaults (0b00#2 ++ p.code ++ 0b0001#4)

/-- 40_loads.md R131, R132, R133: the four stores of A through a pair, HL moved after the store by (HL+) and (HL-), and
the rules' corner cases. -/
def Obligations.StoreAThroughAPair : Prop :=
  ∀ s : State,
    (exec .ldIndBcA s = .next (memWrite s (wordOf s.b s.c) s.a) ∧ EncodedAs .ldIndBcA [0b00000010#8]) ∧
    (exec .ldIndDeA s = .next (memWrite s (wordOf s.d s.e) s.a) ∧ EncodedAs .ldIndDeA [0b00010010#8]) ∧
    (exec .ldHliA s = .next ((memWrite s (wordOf s.h s.l) s.a).setPair .hl (wordOf s.h s.l + 1#16)) ∧
      EncodedAs .ldHliA [0b00100010#8]) ∧
    (exec .ldHldA s = .next ((memWrite s (wordOf s.h s.l) s.a).setPair .hl (wordOf s.h s.l - 1#16)) ∧
      EncodedAs .ldHldA [0b00110010#8]) ∧
    (wordOf s.b s.c = 0xFF50#16 → exec .ldIndBcA s = .next { s with bootOff := true }) ∧
    ((wordOf s.b s.c).toNat ≤ 0x7FFF → exec .ldIndBcA s = .next s) ∧
    (wordOf s.d s.e = 0xFF50#16 → exec .ldIndDeA s = .next { s with bootOff := true }) ∧
    ((wordOf s.d s.e).toNat ≤ 0x7FFF → exec .ldIndDeA s = .next s) ∧
    (wordOf s.h s.l = 0xFFFF#16 → exec .ldHliA s = .next { s with ie := s.a, h := 0x00#8, l := 0x00#8 }) ∧
    (wordOf s.h s.l = 0x0000#16 → exec .ldHldA s = .next { s with h := 0xFF#8, l := 0xFF#8 })

/-- 40_loads.md R134, R135, R136: the four loads of A through a pair, HL moved after the read by (HL+) and (HL-); a read
beyond the ROM faults and moves nothing. What a drawn byte is: the model's choice (log entry 5). -/
def Obligations.LoadAThroughAPair : Prop :=
  ∀ s : State,
    (GoesOnWithRead s (wordOf s.b s.c) (fun v t => t.setReg .a v) (exec .ldAIndBc s) ∧
      EncodedAs .ldAIndBc [0b00001010#8]) ∧
    (GoesOnWithRead s (wordOf s.d s.e) (fun v t => t.setReg .a v) (exec .ldAIndDe s) ∧
      EncodedAs .ldAIndDe [0b00011010#8]) ∧
    (GoesOnWithRead s (wordOf s.h s.l) (fun v t => (t.setReg .a v).setPair .hl (wordOf s.h s.l + 1#16)) (exec .ldAHli s) ∧
      EncodedAs .ldAHli [0b00101010#8]) ∧
    (GoesOnWithRead s (wordOf s.h s.l) (fun v t => (t.setReg .a v).setPair .hl (wordOf s.h s.l - 1#16)) (exec .ldAHld s) ∧
      EncodedAs .ldAHld [0b00111010#8])

/-- 40_loads.md R137. -/
def Obligations.LdRegisterImmediate : Prop :=
  ∀ (i : Instr) (r : Reg8) (v : Byte), i.form = .ldRegImm r v →
    EncodedAs i [0b00#2 ++ r.code ++ 0b110#3, v] ∧
    (∀ s, exec i s = .next (s.setReg r v)) ∧
    OperandFetchFaults (0b00#2 ++ r.code ++ 0b110#3)

/-- 40_loads.md R139, with its corner cases at the top of the address space. -/
def Obligations.LdA16SpStoresLowByteFirst : Prop :=
  (∀ addr : Word, EncodedAs (.ldA16Sp addr) [0b00001000#8, lowByte addr, highByte addr] ∧
    ∀ s, exec (.ldA16Sp addr) s =
      .next (memWrite (memWrite s addr (s.sp.setWidth 8)) (addr + 1#16) ((s.sp >>> 8).setWidth 8))) ∧
  OperandFetchFaults 0b00001000#8 ∧
  (∀ s, exec (.ldA16Sp 0xFFFF#16) s = .next { s with ie := s.sp.setWidth 8 }) ∧
  (∀ s, exec (.ldA16Sp 0xFF4F#16) s = .next { s with bootOff := true }) ∧
  (∀ s, exec (.ldA16Sp 0xDDFF#16) s = .next { s with
    wram := Memory.write (Memory.write s.wram 0x1DFF (s.sp.setWidth 8)) 0x1E00 ((s.sp >>> 8).setWidth 8) })

/-- 40_loads.md R140 (the 49 copies LD r,r') and R141 (the 7 loads LD r,(HL)), bound by the spec's decisions D2 and D3.
What a drawn byte is: the model's choice (log entry 5). -/
def Obligations.LoadsIntoARegister : Prop :=
  (∀ (i : Instr) (r r' : Reg8), i.form = .ldRegReg r r' →
    EncodedAs i [0b01#2 ++ r.code ++ r'.code] ∧ ∀ s, exec i s = .next (s.setReg r (s.reg r'))) ∧
  (∀ (i : Instr) (r : Reg8), i.form = .ldRegMem r →
    EncodedAs i [0b01#2 ++ r.code ++ 0b110#3] ∧
    ∀ s, GoesOnWithRead s (wordOf s.h s.l) (fun v t => t.setReg r v) (exec i s))

/-- 40_loads.md R138 (LD (HL),d8) and R142 (the 7 stores of a register to HL), bound by the spec's decisions D2 and D3. -/
def Obligations.StoresThroughHl : Prop :=
  (∀ v : Byte, EncodedAs (.ldIndHlD8 v) [0b00110110#8, v] ∧
    (∀ s, exec (.ldIndHlD8 v) s = .next (memWrite s (wordOf s.h s.l) v)) ∧
    OperandFetchFaults 0b00110110#8) ∧
  (∀ (i : Instr) (r : Reg8), i.form = .ldMemReg r →
    EncodedAs i [0b01110#5 ++ r.code] ∧ ∀ s, exec i s = .next (memWrite s (wordOf s.h s.l) (s.reg r)))

/-- 40_loads.md R143, R144: the zero page, with the rules' corner cases. LDH A,(a8) cannot fault at its data read. That
an I/O read is a draw is the spec's decision D14; what a drawn byte is, the next byte of `Config.drawByte` with the counter
moved by one, is the model's choice (log entry 5). -/
def Obligations.LdhZeroPage : Prop :=
  ∀ (o : Byte) (addr : Word), addr.toNat = 0xFF00 + o.toNat →
    (EncodedAs (.ldhA8A o) [0b11100000#8, o] ∧ (∀ s, exec (.ldhA8A o) s = .next (memWrite s addr s.a)) ∧
      OperandFetchFaults 0b11100000#8) ∧
    (EncodedAs (.ldhAA8 o) [0b11110000#8, o] ∧
      (∀ s, GoesOnWithRead s addr (fun v t => t.setReg .a v) (exec (.ldhAA8 o) s) ∧ busRead s addr ≠ .beyondRom) ∧
      OperandFetchFaults 0b11110000#8) ∧
    (∀ s, (o = 0x50#8 → exec (.ldhA8A o) s = .next { s with bootOff := true }) ∧
      (o = 0xFF#8 → exec (.ldhA8A o) s = .next { s with ie := s.a }) ∧
      (0x80 ≤ o.toNat → o.toNat ≤ 0xFE →
        exec (.ldhA8A o) s = .next { s with hram := Memory.write s.hram (o.toNat - 0x80) s.a }) ∧
      (o.toNat ≤ 0x7F → o ≠ 0x50#8 → exec (.ldhA8A o) s = .next s) ∧
      (o.toNat ≤ 0x7F → busRead s addr = .draw) ∧ (o = 0xFF#8 → busRead s addr = .byte s.ie))

/-! ### Increment and decrement -/

/-- 41_inc_dec.md R171, R172: no flag is written. -/
def Obligations.IncDecPair : Prop :=
  (∀ (i : Instr) (p : Pair), i.form = .incPair p →
    EncodedAs i [0b00#2 ++ p.code ++ 0b0011#4] ∧ ∀ s, exec i s = .next (s.setPair p (s.pair p + 1#16))) ∧
  (∀ (i : Instr) (p : Pair), i.form = .decPair p →
    EncodedAs i [0b00#2 ++ p.code ++ 0b1011#4] ∧ ∀ s, exec i s = .next (s.setPair p (s.pair p - 1#16)))

/-- 41_inc_dec.md R170, R173, R175: H is the carry out of bit 3 of the increment, the borrow into bit 4 of the decrement.
That N is cleared by INC and set by DEC is the spec's general knowledge G3. -/
def Obligations.IncDecRegister : Prop :=
  (∀ (i : Instr) (r : Reg8), i.form = .incReg r →
    EncodedAs i [0b00#2 ++ r.code ++ 0b100#3] ∧
    ∀ (s : State) (o : Nat), o = (s.reg r).toNat →
      exec i s = .next ((s.setReg r (BitVec.ofNat 8 (o + 1))).setFlags
        { z := decide ((o + 1) % 256 = 0), n := false, h := decide (o % 16 + 1 > 15), c := s.flags.c })) ∧
  (∀ (i : Instr) (r : Reg8), i.form = .decReg r →
    EncodedAs i [0b00#2 ++ r.code ++ 0b101#3] ∧
    ∀ (s : State) (o : Nat), o = (s.reg r).toNat →
      exec i s = .next ((s.setReg r (BitVec.ofNat 8 (o + 255))).setFlags
        { z := decide (o = 1), n := true, h := decide (o % 16 < 1), c := s.flags.c }))

/-- 41_inc_dec.md R170, R174, R176 (N: the spec's general knowledge G3). What a drawn byte is: the model's choice (log
entry 5). -/
def Obligations.IncDecMemory : Prop :=
  (EncodedAs .incIndHl [0b00110100#8] ∧ EncodedAs .decIndHl [0b00110101#8]) ∧
  (∀ s : State, GoesOnWithRead s (wordOf s.h s.l)
    (fun v t => (memWrite t (wordOf s.h s.l) (v + 1#8)).setFlags
      { z := decide (v = 0xFF#8), n := false, h := decide (v.toNat % 16 + 1 > 15), c := s.flags.c })
    (exec .incIndHl s)) ∧
  (∀ s : State, GoesOnWithRead s (wordOf s.h s.l)
    (fun v t => (memWrite t (wordOf s.h s.l) (v - 1#8)).setFlags
      { z := decide (v = 0x01#8), n := true, h := decide (v.toNat % 16 < 1), c := s.flags.c })
    (exec .decIndHl s))

/-! ### Rotates -/

/-- 42_rotates.md R190 to R193: RLCA and RRCA rotate A, RLA and RRA rotate the nine bits C:A; Z, N and H are cleared and
C is the bit moved out. -/
def Obligations.AccumulatorRotates : Prop :=
  (EncodedAs .rlca [0b00000111#8] ∧ EncodedAs .rrca [0b00001111#8] ∧ EncodedAs .rla [0b00010111#8] ∧
    EncodedAs .rra [0b00011111#8]) ∧
  ∀ s : State,
    exec .rlca s = .next { s with a := s.a.rotateLeft 1, flags := ⟨false, false, false, s.a.getLsbD 7⟩ } ∧
    exec .rrca s = .next { s with a := s.a.rotateRight 1, flags := ⟨false, false, false, s.a.getLsbD 0⟩ } ∧
    exec .rla s = .next
      { s with a := ((BitVec.ofBool s.flags.c ++ s.a).rotateLeft 1).setWidth 8,
               flags := ⟨false, false, false, s.a.getLsbD 7⟩ } ∧
    exec .rra s = .next
      { s with a := ((BitVec.ofBool s.flags.c ++ s.a).rotateRight 1).setWidth 8,
               flags := ⟨false, false, false, s.a.getLsbD 0⟩ }

/-! ### Adds -/

/-- 43_add.md R200, R202: both operands read before the write; that Z is unchanged is the spec's general knowledge G4. -/
def Obligations.AddHlPair : Prop :=
  ∀ (i : Instr) (p : Pair), i.form = .addHl p →
    EncodedAs i [0b00#2 ++ p.code ++ 0b1001#4] ∧
    ∀ (s : State) (hl v : Nat), hl = (s.pair .hl).toNat → v = (s.pair p).toNat →
      exec i s = .next ((s.setPair .hl (BitVec.ofNat 16 (hl + v))).setFlags
        { z := s.flags.z, n := false, h := decide (hl % 0x1000 + v % 0x1000 > 0x0FFF), c := decide (hl + v > 0xFFFF) })

/-- 43_add.md R200, R201, R203, R205: the carry-in of ADC is 0 or 1 and counts in H. -/
def Obligations.AddAdcRegister : Prop :=
  (∀ (i : Instr) (r : Reg8), i.form = .addReg r →
    EncodedAs i [0b10000#5 ++ r.code] ∧
    ∀ (s : State) (x y : Nat), x = s.a.toNat → y = (s.reg r).toNat →
      exec i s = .next { s with
        a := BitVec.ofNat 8 (x + y)
        flags := { z := decide ((x + y) % 256 = 0), n := false, h := decide (x % 16 + y % 16 > 15)
                   c := decide (x + y > 255) } }) ∧
  (∀ (i : Instr) (r : Reg8), i.form = .adcReg r →
    EncodedAs i [0b10001#5 ++ r.code] ∧
    ∀ (s : State) (x y cin : Nat), x = s.a.toNat → y = (s.reg r).toNat → cin = (if s.flags.c then 1 else 0) →
      exec i s = .next { s with
        a := BitVec.ofNat 8 (x + y + cin)
        flags := { z := decide ((x + y + cin) % 256 = 0), n := false, h := decide (x % 16 + y % 16 + cin > 15)
                   c := decide (x + y + cin > 255) } })

/-- 43_add.md R201, R204, R206, bound by the spec's decision D3: a read beyond the ROM leaves A and F unchanged. What a
drawn byte is: the model's choice (log entry 5). -/
def Obligations.AddAdcMemory : Prop :=
  (EncodedAs .addAIndHl [0b10000110#8] ∧ EncodedAs .adcAIndHl [0b10001110#8]) ∧
  ∀ (s : State) (x cin : Nat), x = s.a.toNat → cin = (if s.flags.c then 1 else 0) →
    GoesOnWithRead s (wordOf s.h s.l)
      (fun v t => { t with
        a := BitVec.ofNat 8 (x + v.toNat)
        flags := { z := decide ((x + v.toNat) % 256 = 0), n := false, h := decide (x % 16 + v.toNat % 16 > 15)
                   c := decide (x + v.toNat > 255) } })
      (exec .addAIndHl s) ∧
    GoesOnWithRead s (wordOf s.h s.l)
      (fun v t => { t with
        a := BitVec.ofNat 8 (x + v.toNat + cin)
        flags := { z := decide ((x + v.toNat + cin) % 256 = 0), n := false
                   h := decide (x % 16 + v.toNat % 16 + cin > 15), c := decide (x + v.toNat + cin > 255) } })
      (exec .adcAIndHl s)

/-! ### Jumps -/

/-- 44_jumps.md R211: a step at JR leaves PC at the JR's address plus 2 plus the sign-extended operand byte, modulo 2^16.
`exec` runs on the state whose PC is already past the operand byte (log entry 1). -/
def Obligations.JrAddsTheSignedOffset : Prop :=
  (∀ (e : Byte) (s : State),
    EncodedAs (.jrR8 e.toInt) [0b00011000#8, e] ∧
    exec (.jrR8 e.toInt) s = .next { s with pc := s.pc + e.signExtend 16 }) ∧
  (∀ e : Byte, StepJumps (.jrR8 e.toInt) 0b00011000#8 e fun _ => true) ∧
  OperandFetchFaults 0b00011000#8

/-- 44_jumps.md R210, R212: the four conditions; a step leaves PC at the JR's address plus 2, plus the sign-extended
operand byte when the condition holds. `exec` runs on the state whose PC is already past the operand byte (log entry 1). -/
def Obligations.JrConditional : Prop :=
  (∀ (e : Byte) (s t : State), t = { s with pc := s.pc + e.signExtend 16 } →
    (exec (.jrNzR8 e.toInt) s = .next (if s.flags.z = false then t else s) ∧ EncodedAs (.jrNzR8 e.toInt) [0b00100000#8, e]) ∧
    (exec (.jrZR8 e.toInt) s = .next (if s.flags.z = true then t else s) ∧ EncodedAs (.jrZR8 e.toInt) [0b00101000#8, e]) ∧
    (exec (.jrNcR8 e.toInt) s = .next (if s.flags.c = false then t else s) ∧ EncodedAs (.jrNcR8 e.toInt) [0b00110000#8, e]) ∧
    (exec (.jrCR8 e.toInt) s = .next (if s.flags.c = true then t else s) ∧ EncodedAs (.jrCR8 e.toInt) [0b00111000#8, e])) ∧
  (∀ e : Byte,
    StepJumps (.jrNzR8 e.toInt) 0b00100000#8 e (fun f => !f.z) ∧ StepJumps (.jrZR8 e.toInt) 0b00101000#8 e (fun f => f.z) ∧
    StepJumps (.jrNcR8 e.toInt) 0b00110000#8 e (fun f => !f.c) ∧ StepJumps (.jrCR8 e.toInt) 0b00111000#8 e fun f => f.c) ∧
  (∀ cc : Cond, OperandFetchFaults (0b001#3 ++ cc.code ++ 0b000#3))

/-! ### DAA, CPL, SCF, CCF -/

/-- 45_bcd_flags.md R220, every clause; the thresholds and that the subtract path keeps C are the spec's general
knowledge G3. -/
def Obligations.DaaAdjusts : Prop :=
  EncodedAs .daa [0b00100111#8] ∧
  ∀ (s : State) (a : Nat), a = s.a.toNat →
    ∃ t, exec .daa s = .next t ∧
      t = { s with a := t.a, flags := { z := decide (t.a.toNat = 0), n := s.flags.n, h := false, c := t.flags.c } } ∧
      (s.flags.n = false →
        t.a.toNat = (a + (if s.flags.c = true ∨ a > 0x99 then 0x60 else 0) +
          (if s.flags.h = true ∨ a % 16 > 9 then 0x06 else 0)) % 256 ∧
        (t.flags.c = true ↔ s.flags.c = true ∨ a > 0x99)) ∧
      (s.flags.n = true →
        t.a.toNat = (a + (if s.flags.c = true then 256 - 0x60 else 0) +
          (if s.flags.h = true then 256 - 0x06 else 0)) % 256 ∧
        t.flags.c = s.flags.c)

/-- 43_add.md R203, R205 and 45_bcd_flags.md R220: DAA after ADC A,B of two BCD numbers with a carry-in gives the BCD sum
modulo 100, C the decimal carry and Z the test of the result. -/
def Obligations.DaaAfterAdcIsDecimalAddition : Prop :=
  ∀ (s t : State) (x y cin : Nat), x ≤ 99 → y ≤ 99 → cin = (if s.flags.c then 1 else 0) →
    s.a = bcd x → s.b = bcd y → exec .adcAB s = .next t →
    ∃ u, exec .daa t = .next u ∧ u.a = bcd ((x + y + cin) % 100) ∧ u.flags.c = decide (x + y + cin > 99) ∧
      u.flags.z = decide ((x + y + cin) % 100 = 0) ∧ u.flags.n = false ∧ u.flags.h = false

/-- 45_bcd_flags.md R221. -/
def Obligations.CplComplementsA : Prop :=
  EncodedAs .cpl [0b00101111#8] ∧
  ∀ s : State, exec .cpl s = .next
    { s with a := BitVec.ofNat 8 (255 - s.a.toNat), flags := { s.flags with n := true, h := true } }

/-- 45_bcd_flags.md R222, R223; that Z is unchanged is the spec's general knowledge G4. -/
def Obligations.ScfCcfWriteCarry : Prop :=
  (EncodedAs .scf [0b00110111#8] ∧ EncodedAs .ccf [0b00111111#8]) ∧
  ∀ s : State,
    exec .scf s = .next { s with flags := { z := s.flags.z, n := false, h := false, c := true } } ∧
    exec .ccf s = .next { s with flags := { z := s.flags.z, n := false, h := false, c := !s.flags.c } }

/-! ### NOP, STOP, unbound opcodes -/

/-- 46_misc.md R240. -/
def Obligations.NopDoesNothing : Prop :=
  EncodedAs .nop [0b00000000#8] ∧ (∀ s : State, exec .nop s = .next s) ∧
  ∀ s : State, s.haltedBy = .none → busRead s s.pc = .beyondRom →
    step s = .fault (.cartRange s.pc (stoppedAt s s.pc))

/-- 46_misc.md R241, STOP_LENGTH being the spec's decision D6: no effect; under STOP_LENGTH 2 the step also fetches and
discards the next byte, under 1 it does not. -/
def Obligations.StopDoesNotStop : Prop :=
  (∀ s : State, exec .stop s = .next s) ∧
  (∀ s : State, s.haltedBy = .none → busRead s s.pc = .byte 0b00010000#8 →
    (s.launch.stopLength = .one →
      step s = .next (advancePpu (stepCost .stop { s with pc := s.pc + 1#16 }) { s with pc := s.pc + 1#16 })) ∧
    (s.launch.stopLength = .two → ∀ v, busRead s (s.pc + 1#16) = .byte v →
      step s = .next (advancePpu (stepCost .stop { s with pc := s.pc + 2#16 }) { s with pc := s.pc + 2#16 }))) ∧
  OperandFetchFaults 0b00010000#8

/-- 46_misc.md R242 (the 111 unbound opcodes), UNBOUND_POLICY being the spec's decision D4. -/
def Obligations.UnboundOpcodePolicies : Prop :=
  ∀ (i : Instr) (op : Byte), i.form = .unbound op →
    EncodedAs i [op] ∧ unboundByte op = true ∧
    ∀ s : State,
      (s.launch.unboundPolicy = .nop → exec i s = .next s) ∧
      (s.launch.unboundPolicy = .refuse →
        exec i s = .refused (.unboundOpcode op { s with haltedBy := .refused (.unboundOpcode op) }))

/-! ### The address decoder -/

/-- 20_memory.md R53 (the fine map: the spec's decision D10). -/
def Obligations.AddressMap : Prop :=
  ∀ a : Word,
    (region a = .bootOverlay ↔ a.toNat ≤ 0x00FF) ∧
    (region a = .cartRom ↔ 0x0100 ≤ a.toNat ∧ a.toNat ≤ 0x7FFF) ∧
    (region a = .vram ↔ 0x8000 ≤ a.toNat ∧ a.toNat ≤ 0x9FFF) ∧
    (region a = .extRam ↔ 0xA000 ≤ a.toNat ∧ a.toNat ≤ 0xBFFF) ∧
    (region a = .wram ↔ 0xC000 ≤ a.toNat ∧ a.toNat ≤ 0xDFFF) ∧
    (region a = .echo ↔ 0xE000 ≤ a.toNat ∧ a.toNat ≤ 0xFDFF) ∧
    (region a = .oam ↔ 0xFE00 ≤ a.toNat ∧ a.toNat ≤ 0xFE9F) ∧
    (region a = .unusable ↔ 0xFEA0 ≤ a.toNat ∧ a.toNat ≤ 0xFEFF) ∧
    (region a = .io ↔ 0xFF00 ≤ a.toNat ∧ a.toNat ≤ 0xFF7F) ∧
    (region a = .hram ↔ 0xFF80 ≤ a.toNat ∧ a.toNat ≤ 0xFFFE) ∧
    (region a = .ie ↔ a.toNat = 0xFFFF)

/-- 20_memory.md R54, R55, R56: the boot-ROM overlay and the no-mapper cartridge. -/
def Obligations.RomWindowReads : Prop :=
  ∀ (s : State) (a : Word),
    (a.toNat ≤ 0x00FF → s.bootOff = false → busRead s a = .byte (Memory.read s.launch.bootRom a.toNat)) ∧
    ((a.toNat ≤ 0x00FF ∧ s.bootOff = true) ∨ (0x0100 ≤ a.toNat ∧ a.toNat ≤ 0x7FFF) →
      (a.toNat < s.launch.romSize → busRead s a = .byte (Memory.read s.launch.rom a.toNat)) ∧
      (s.launch.romSize ≤ a.toNat →
        ∀ k, memRead s a k = .fault (.cartRange a { s with haltedBy := .fault (.cartRange a) })))

/-- 20_memory.md R61, R62: WRAM and its echo are one store, and WRAM 0xDE00 to 0xDFFF has no echo. -/
def Obligations.EchoAliasesWorkRam : Prop :=
  (∀ (s : State) (a : Word) (v : Byte), s.StoresOk → 0xC000 ≤ a.toNat → a.toNat ≤ 0xDFFF →
    busRead (memWrite s a v) a = .byte v ∧ busRead s a = .byte (Memory.read s.wram (a.toNat - 0xC000)) ∧
    memWrite s a v = { s with wram := Memory.write s.wram (a.toNat - 0xC000) v }) ∧
  (∀ (s : State) (a : Word) (v : Byte), s.StoresOk → 0xC000 ≤ a.toNat → a.toNat ≤ 0xDDFF →
    busRead s (a + 0x2000#16) = .byte (Memory.read s.wram (a.toNat - 0xC000)) ∧
    memWrite s (a + 0x2000#16) v = memWrite s a v ∧
    busRead (memWrite s a v) (a + 0x2000#16) = .byte v ∧ busRead (memWrite s (a + 0x2000#16) v) a = .byte v) ∧
  (∀ (s : State) (a b : Word) (v : Byte), 0xDE00 ≤ a.toNat → a.toNat ≤ 0xDFFF → b ≠ a →
    busRead (memWrite s a v) b = busRead s b)

/-- 20_memory.md R58, R60, R61, R62, R63, R67, R68, R74, R76 (the stores' extents: the spec's decisions D11, D12, D13, D15,
D16): a byte written is read back in every store (VRAM when not blocked, external RAM below its size, work RAM and its echo,
OAM, HRAM, IE), external RAM beyond its size ignores the write, and a write changes what no other byte reads as. -/
def Obligations.StoresReadBackWhatWasWritten : Prop :=
  (∀ (s : State) (a b : Word) (v : Byte), Untouched a b → busRead (memWrite s a v) b = busRead s b) ∧
  ∀ (s : State) (a : Word) (v : Byte), s.StoresOk →
    (0x8000 ≤ a.toNat → a.toNat ≤ 0x9FFF → (s.launch.vramBlocking = false ∨ s.ppu.mode ≠ .vramAccess) →
      busRead (memWrite s a v) a = .byte v) ∧
    (0xA000 ≤ a.toNat → a.toNat ≤ 0xBFFF → a.toNat < 0xA000 + s.launch.extRamSize →
      busRead (memWrite s a v) a = .byte v) ∧
    (0xA000 ≤ a.toNat → a.toNat ≤ 0xBFFF → 0xA000 + s.launch.extRamSize ≤ a.toNat →
      memWrite s a v = s ∧ busRead s a = .draw) ∧
    (0xC000 ≤ a.toNat → a.toNat ≤ 0xFDFF → busRead (memWrite s a v) a = .byte v) ∧
    (0xFE00 ≤ a.toNat → a.toNat ≤ 0xFE9F → busRead (memWrite s a v) a = .byte v) ∧
    (0xFF80 ≤ a.toNat → a.toNat ≤ 0xFFFE → busRead (memWrite s a v) a = .byte v) ∧
    (a.toNat = 0xFFFF → memWrite s a v = { s with ie := v } ∧ busRead s a = .byte s.ie)

/-- 20_memory.md R66: any write to 0xFF50 sets BOOT_OFF and does nothing else; any other write to an I/O register does
nothing. -/
def Obligations.IoWrites : Prop :=
  ∀ (s : State) (a : Word) (v : Byte), 0xFF00 ≤ a.toNat → a.toNat ≤ 0xFF7F →
    memWrite s a v = if a = 0xFF50#16 then { s with bootOff := true } else s

/-- 20_memory.md R57, R64, R65, R74 and 00_scope.md R12 (the spec's decisions D13, D14, D17): reads of I/O and of the
unusable range are draws, each taking the next free byte and changing nothing else but the
counter (the model's choice, log entry 5); writes to the ROM window and to the
unusable range do nothing. -/
def Obligations.DrawnReadsAndDiscardedWrites : Prop :=
  (∀ (s : State) (a : Word), 0xFEA0 ≤ a.toNat → a.toNat ≤ 0xFF7F →
    busRead s a = .draw ∧
    ∀ k, memRead s a k = k (Config.drawByte s.draws) { s with draws := s.draws + 1 }) ∧
  (∀ (s : State) (a : Word) (v : Byte), a.toNat ≤ 0x7FFF ∨ (0xFEA0 ≤ a.toNat ∧ a.toNat ≤ 0xFEFF) → memWrite s a v = s)

/-- 20_memory.md R59 (the spec's decision D18; the value 0xFF is its general knowledge G7). -/
def Obligations.VramBlocking : Prop :=
  ∀ (s : State) (a : Word), 0x8000 ≤ a.toNat → a.toNat ≤ 0x9FFF →
    (s.launch.vramBlocking = true ∧ s.ppu.mode = .vramAccess → busRead s a = .byte 0xFF#8) ∧
    (s.launch.vramBlocking = false ∨ s.ppu.mode ≠ .vramAccess →
      busRead s a = .byte (Memory.read s.vram (a.toNat - 0x8000))) ∧
    ∀ v, memWrite s a v = { s with vram := Memory.write s.vram (a.toNat - 0x8000) v }

/-! ### The PPU -/

/-- 60_exceptions.md R310, R311, R312 (carrying the excess and 144 visible lines: the spec's decisions D8, D9): the
budgets, the transitions, and that the advance unfolds as the rule's loop does, however many transitions a call makes. -/
def Obligations.PpuCycleFollowsTheRules : Prop :=
  (PpuMode.budget .oamScan = 80 ∧ PpuMode.budget .vramAccess = 172 ∧ PpuMode.budget .hblank = 204 ∧
    PpuMode.budget .vblank = 4560) ∧
  (∀ p : Ppu,
    (p.mode = .oamScan → p.transition = { p with mode := .vramAccess }) ∧
    (p.mode = .vramAccess → p.transition = { p with mode := .hblank }) ∧
    (p.mode = .hblank → p.line + 1 = 144 → p.transition = { p with line := 144, mode := .vblank }) ∧
    (p.mode = .hblank → p.line + 1 ≠ 144 → p.transition = { p with line := p.line + 1, mode := .oamScan }) ∧
    (p.mode = .vblank → p.transition = { p with line := 0, mode := .oamScan })) ∧
  ∀ (p q : Ppu) (t : Nat), p.total ≤ t →
    q = { p with modeClock := p.modeClock + (t - p.total), total := t } →
    (q.modeClock < q.mode.budget → p.cycle t = q) ∧
    (q.mode.budget ≤ q.modeClock →
      p.cycle t = (Ppu.transition { q with modeClock := q.modeClock - q.mode.budget }).cycle t)

/-- 60_exceptions.md R311: the excess over a budget is carried, so advancing in two calls is advancing in one. -/
def Obligations.PpuAdvanceInTwoCallsIsOne : Prop :=
  ∀ (p : Ppu) (t u : Nat), p.total ≤ t → t ≤ u → (p.cycle t).cycle u = p.cycle u

/-- 60_exceptions.md R313 (derived there from R310 to R312): from power-on, mode and line at every cumulative count. -/
def Obligations.PpuTimingFromPowerOn : Prop :=
  ∀ t : Nat, (Ppu.powerOn.cycle t).total = t ∧ (Ppu.powerOn.cycle t).Ok ∧
    (Ppu.powerOn.cycle t).frameCycle = t % frameCycles ∧ ModeAt (t % frameCycles) (Ppu.powerOn.cycle t)

/-- 60_exceptions.md R313, R315 and 70_reset_and_hazards.md R363: every step keeps the PPU in phase with the cycle count,
and the count grows by CYCLE_COST: by its number, or by the first row of its table for the step's opcode, the taken cost
for a conditional jump whose condition holds. (An opcode no row lists costs a free value: the model's choice, log entry
12.) -/
def Obligations.StepKeepsThePpuInPhase : Prop :=
  ∀ s t : State, s.ppu.Ok → s.ppu.frameCycle = s.ppu.total % frameCycles → step s = .next t →
    t.ppu.Ok ∧ t.ppu.frameCycle = t.ppu.total % frameCycles ∧ ModeAt (t.ppu.total % frameCycles) t.ppu ∧
    (∀ n, s.launch.cycleCost = .perStep n → t.ppu.total = s.ppu.total + n) ∧
    ∀ (rows : List CostRow) (op : Byte) (u : State), s.launch.cycleCost = .perOpcode rows → Fetches s [op] u →
      (∀ (before after : List CostRow) (row : CostRow), rows = before ++ row :: after → row.opcode = op →
        (∀ r ∈ before, r.opcode ≠ op) →
        t.ppu.total = s.ppu.total + (if jumpsOn op s.flags then row.takenCost else row.cost)) ∧
      ((∀ r ∈ rows, r.opcode ≠ op) → t.ppu.total = s.ppu.total + Config.unlistedCost op)

/-- 10_state.md R34, 60_exceptions.md R314, 70_reset_and_hazards.md R362: with VRAM_BLOCKING off the PPU has no effect on
any instruction: a step from a state that differs only in its PPU does the same but for the PPU. The two steps start with
the same counter of draws, so they are given the same drawn bytes: that is the model's choice (log entry 5), where
20_memory.md R74 draws afresh each time. -/
def Obligations.PpuIsInvisibleWithoutBlocking : Prop :=
  ∀ (s t : State) (p : Ppu), s.launch.vramBlocking = false → step s = .next t →
    ∃ q, step { s with ppu := p } = .next { t with ppu := q }

/-! ### The whole machine -/

/-- Every step keeps the invariant of launched machines (10_state.md R31, R32; 70_reset_and_hazards.md R358). -/
def Obligations.StepKeepsTheInvariant : Prop :=
  ∀ s t : State, s.Inv → step s = .next t → t.Inv

/-- The reset state meets the invariant. -/
def Obligations.ResetMeetsTheInvariant : Prop := State.reset.Inv

/-- 70_reset_and_hazards.md R350, R354, R356, R357: what the spec states of power-on, at State.reset; and State.reset is
the launch from power-on with all-zero ROMs, default parameters and every drawn value 0 (the model's choice, log entries
2, 3 and 4). -/
def Obligations.ResetIsPowerOn : Prop :=
  State.reset.pc = 0x0000#16 ∧ State.reset.bootOff = false ∧
  State.reset.ppu = { mode := .oamScan, modeClock := 0, line := 0, total := 0 } ∧ State.reset.haltedBy = .none ∧
  ∀ (bootRom rom : List Byte) (drawn : Start),
    bootRom.length = 0x100 → rom.length = 0x8000 → (∀ v ∈ bootRom ++ rom, v = 0) →
    drawn = { a := 0, f := 0, b := 0, c := 0, d := 0, e := 0, h := 0, l := 0, sp := 0, pc := 0, ie := 0,
              bootOff := false, extRam := [], vram := [], wram := [], oam := [], hram := [], ppu := Ppu.powerOn } →
    launch bootRom rom Params.default (Start.powerOn drawn) = .ok State.reset

/-- 70_reset_and_hazards.md R358, 60_exceptions.md R304 (the spec's decision D24): a launch is admitted exactly under its
premises, and the launched machine meets the invariant. -/
def Obligations.LaunchPremises : Prop :=
  ∀ (bootRom rom : List Byte) (p : Params) (st : Start),
    ((∃ s, launch bootRom rom p st = .ok s) ↔
      bootRom.length = 256 ∧ 0x14D ≤ rom.length ∧ rom.length ≤ 0x10000 ∧ (rom.getD 0x149 0).toNat ≤ 5) ∧
    (∀ s, st.ppu.Ok → launch bootRom rom p st = .ok s → s.Inv)

/-- 70_reset_and_hazards.md R350 to R357 and 20_memory.md R70 (the spec's decisions D19 to D24): a machine launched from
power-on, for every drawn register, flag, SP, IE and RAM byte and every ROM. -/
def Obligations.PowerOnLaunch : Prop :=
  ∀ (bootRom rom : List Byte) (p : Params) (drawn : Start) (s : State),
    launch bootRom rom p (Start.powerOn drawn) = .ok s →
    (s.pc = 0x0000#16 ∧ s.bootOff = false ∧ s.haltedBy = .none ∧
      s.ppu = { mode := .oamScan, modeClock := 0, line := 0, total := 0 }) ∧
    (s.a = drawn.a ∧ s.b = drawn.b ∧ s.c = drawn.c ∧ s.d = drawn.d ∧ s.e = drawn.e ∧ s.h = drawn.h ∧ s.l = drawn.l ∧
      s.sp = drawn.sp ∧ s.ie = drawn.ie ∧ s.f = drawn.f &&& 0xF0#8) ∧
    (∀ n, n < 256 → Memory.read s.launch.bootRom n = bootRom.getD n 0) ∧
    (s.launch.romSize = rom.length ∧ ∀ n, Memory.read s.launch.rom n = rom.getD n 0) ∧
    some s.launch.extRamSize = extRamSizeOf (rom.getD 0x149 0) ∧
    (∀ n, n < 0x2000 → Memory.read s.wram n = drawn.wram.getD n 0) ∧
    (∀ n, n < 0x2000 → Memory.read s.vram n = drawn.vram.getD n 0) ∧
    (∀ n, n < 0xA0 → Memory.read s.oam n = drawn.oam.getD n 0) ∧
    (∀ n, n < 0x7F → Memory.read s.hram n = drawn.hram.getD n 0) ∧
    (∀ n, n < s.launch.extRamSize → Memory.read s.extRam n = drawn.extRam.getD n 0)

/-- 20_memory.md R57, R82 and 70_reset_and_hazards.md R355: nothing the machine does changes BOOT_ROM, ROM or a launch
parameter, however many steps it takes. -/
def Obligations.LaunchNeverChanges : Prop :=
  ∀ s t : State, Reaches s t → t.launch = s.launch

/-- 10_state.md R29: the latch is false at power-on, any write to 0xFF50 sets it, nothing else does, it never reverts, and
only reads of 0x0000 to 0x00FF depend on it. -/
def Obligations.BootLatchIsPermanent : Prop :=
  State.reset.bootOff = false ∧
  (∀ (s : State) (v : Byte), memWrite s 0xFF50#16 v = { s with bootOff := true }) ∧
  (∀ (s : State) (a : Word) (v : Byte), a ≠ 0xFF50#16 → (memWrite s a v).bootOff = s.bootOff) ∧
  (∀ s t : State, s.bootOff = true → Reaches s t → t.bootOff = true) ∧
  (∀ (i : Instr) (s t : State), exec i s = .next t → s.bootOff = false →
    (t.bootOff = true ↔ 0xFF50#16 ∈ storedTo s i.form)) ∧
  (∀ (s : State) (a : Word) (off : Bool), 0x0100 ≤ a.toNat → busRead { s with bootOff := off } a = busRead s a)

/-- 60_exceptions.md R316 (the spec's decision D26; that the boundary before the first step counts is the model's reading,
log entry 16). A run answers `ended` only at END_PC, in a state the start reaches and not halted, and a run from END_PC
answers it. It answers `stoppedByHost`, the other normal end, only in a reached state, not halted and away from END_PC,
and there when the host stops it. A fault or a refusal is the run's answer only where a step from a reached state gives
it. Away from END_PC the run goes on with the state after the next step, or ends with that step's fault or refusal. A run
given a halted state answers its stop, whatever number of steps it is given: the model's choice (log entry 20). -/
def Obligations.RunEndsAtEndPc : Prop :=
  (∀ (endPc : Word) (quit : Nat) (s t : State), runTo endPc quit s = .ended t →
    Reaches s t ∧ t.pc = endPc ∧ t.haltedBy = .none) ∧
  (∀ (endPc : Word) (quit : Nat) (s t : State), runTo endPc quit s = .stoppedByHost t →
    Reaches s t ∧ t.pc ≠ endPc ∧ t.haltedBy = .none) ∧
  (∀ (endPc : Word) (quit : Nat) (s : State) (f : Fault), runTo endPc quit s = .fault f →
    ∃ t, Reaches s t ∧ step t = .fault f) ∧
  (∀ (endPc : Word) (quit : Nat) (s : State) (r : Refusal), runTo endPc quit s = .refused r →
    ∃ t, Reaches s t ∧ step t = .refused r) ∧
  (∀ (endPc : Word) (quit : Nat) (s : State), s.haltedBy = .none → s.pc = endPc → runTo endPc quit s = .ended s) ∧
  (∀ (endPc : Word) (s : State), s.haltedBy = .none → s.pc ≠ endPc → runTo endPc 0 s = .stoppedByHost s) ∧
  (∀ (endPc : Word) (quit : Nat) (s t : State), s.pc ≠ endPc → step s = .next t →
    runTo endPc (quit + 1) s = runTo endPc quit t) ∧
  (∀ (endPc : Word) (quit : Nat) (s : State) (f : Fault), s.pc ≠ endPc → step s = .fault f →
    runTo endPc (quit + 1) s = .fault f) ∧
  (∀ (endPc : Word) (quit : Nat) (s : State) (r : Refusal), s.pc ≠ endPc → step s = .refused r →
    runTo endPc (quit + 1) s = .refused r) ∧
  (∀ (endPc : Word) (quit : Nat) (s : State), s.haltedBy ≠ .none →
    (∀ f, step s = .fault f → runTo endPc quit s = .fault f) ∧
    (∀ r, step s = .refused r → runTo endPc quit s = .refused r))

/-- 20_memory.md R52, R56, 46_misc.md R242, 60_exceptions.md R301, R306: with a ROM that fills its window and UNBOUND_POLICY
nop nothing can stop the machine: from a running state every step of every run completes, whatever memory holds. -/
def Obligations.FullRomMachineNeverStops : Prop :=
  ∀ s : State, s.haltedBy = .none → 0x8000 ≤ s.launch.romSize → s.launch.unboundPolicy = .nop → s.Safe
end

