-- ==== Sys2Proof/Laws/Decode.lean ====
section
/-! SUPPORT. Decode.lean: the laws of the byte order and of the signed offset. -/

namespace Sys2Proof

/-- A word is its high byte times 256 plus its low byte. -/
theorem toNat_wordOf (hi lo : Byte) : (wordOf hi lo).toNat = hi.toNat * 256 + lo.toNat := by
  have h : (wordOf hi lo).toNat = hi.toNat <<< 8 ||| lo.toNat := BitVec.toNat_append hi lo
  rw [h, Nat.shiftLeft_eq, Nat.mul_comm, ← Nat.two_pow_add_eq_or_of_lt lo.isLt]

theorem toNat_highByte (w : Word) : (highByte w).toNat = w.toNat / 256 := by
  have := w.isLt
  simp only [highByte, BitVec.extractLsb'_toNat, Nat.shiftRight_eq_div_pow]
  omega

theorem toNat_lowByte (w : Word) : (lowByte w).toNat = w.toNat % 256 := by
  simp [lowByte]

@[simp] theorem highByte_wordOf (hi lo : Byte) : highByte (wordOf hi lo) = hi := by
  apply BitVec.eq_of_toNat_eq
  have := lo.isLt
  rw [toNat_highByte, toNat_wordOf]
  omega

@[simp] theorem lowByte_wordOf (hi lo : Byte) : lowByte (wordOf hi lo) = lo := by
  apply BitVec.eq_of_toNat_eq
  have := lo.isLt
  rw [toNat_lowByte, toNat_wordOf]
  omega

@[simp] theorem wordOf_bytes (w : Word) : wordOf (highByte w) (lowByte w) = w := by
  apply BitVec.eq_of_toNat_eq
  rw [toNat_wordOf, toNat_highByte, toNat_lowByte]
  omega

/-- An offset in range is the integer its operand byte stands for. -/
theorem toInt_ofInt_of_offsetInRange {e : Int} (h : offsetInRange e = true) : (BitVec.ofInt 8 e).toInt = e := by
  simp only [offsetInRange, Bool.and_eq_true, decide_eq_true_eq] at h
  rw [BitVec.toInt_ofInt]
  exact Int.bmod_eq_of_le (by omega) (by omega)

/-- Every byte stands for an offset in range. -/
theorem offsetInRange_toInt (v : Byte) : offsetInRange v.toInt = true := by
  simp only [offsetInRange, Bool.and_eq_true, decide_eq_true_eq]
  have h1 := BitVec.le_toInt (x := v)
  have h2 := BitVec.toInt_lt (x := v)
  omega

/-- An offset in range widened as `sext_16` of its operand byte (00_scope.md R8). -/
theorem ofInt16_toInt (v : Byte) : BitVec.ofInt 16 v.toInt = v.signExtend 16 := rfl

end Sys2Proof
end

