-- ==== Sys2Proof/Laws/Memory.lean ====
section
/-! SUPPORT. Memory.lean: the laws of a byte store: read after write, and every operation keeps the canonical form and
the size. -/

namespace Sys2Proof.Machine

@[simp] theorem Memory.read_nil (i : Nat) : Memory.read [] i = Config.unlistedByte := rfl

/-- A write leaves every other index alone. -/
theorem Memory.read_write_other (m : Memory) {i j : Nat} (v : Byte) (h : j ≠ i) :
    Memory.read (Memory.write m i v) j = Memory.read m j := by
  induction m with
  | nil =>
    unfold Memory.write
    split <;> simp [Memory.read, h]
  | cons cell m ih =>
    obtain ⟨k, w⟩ := cell
    simp only [Memory.write]
    split_ifs <;> simp_all [Memory.read]

theorem Memory.read_of_wfFrom {lo i : Nat} {m : Memory} (h : Memory.wfFrom lo m = true) (hi : i < lo) :
    Memory.read m i = Config.unlistedByte := by
  induction m generalizing lo with
  | nil => rfl
  | cons cell m ih =>
    obtain ⟨k, w⟩ := cell
    simp only [Memory.wfFrom, Bool.and_eq_true, decide_eq_true_eq] at h
    have hk : i ≠ k := by omega
    simp only [Memory.read, hk, if_false]
    exact ih h.2 (by omega)

/-- A read after a write of the same index gives the byte written. -/
theorem Memory.read_write_same_from {lo : Nat} {m : Memory} (i : Nat) (v : Byte) (h : Memory.wfFrom lo m = true) :
    Memory.read (Memory.write m i v) i = v := by
  induction m generalizing lo with
  | nil =>
    unfold Memory.write
    split <;> simp_all [Memory.read]
  | cons cell m ih =>
    obtain ⟨k, w⟩ := cell
    simp only [Memory.wfFrom, Bool.and_eq_true, decide_eq_true_eq] at h
    obtain ⟨⟨hlo, hw⟩, hm⟩ := h
    simp only [Memory.write]
    by_cases h1 : i < k
    · by_cases h2 : v = Config.unlistedByte
      · have : i ≠ k := by omega
        simp [h1, h2, Memory.read, this, Memory.read_of_wfFrom hm (show i < k + 1 by omega)]
      · simp [h1, h2, Memory.read]
    · by_cases h2 : i = k
      · by_cases h3 : v = Config.unlistedByte
        · subst h2
          simp [h3, Memory.read_of_wfFrom hm (Nat.lt_succ_self i)]
        · simp [h2, h3, Memory.read]
      · simp [h1, h2, Memory.read, ih hm]

theorem Memory.read_write_same {m : Memory} (i : Nat) (v : Byte) (h : Memory.wf m = true) :
    Memory.read (Memory.write m i v) i = v := Memory.read_write_same_from i v h

theorem Memory.wfFrom_mono {lo lo' : Nat} {m : Memory} (h : Memory.wfFrom lo m = true) (hlo : lo' ≤ lo) :
    Memory.wfFrom lo' m = true := by
  cases m with
  | nil => rfl
  | cons cell m =>
    obtain ⟨k, w⟩ := cell
    simp only [Memory.wfFrom, Bool.and_eq_true, decide_eq_true_eq] at h ⊢
    exact ⟨⟨by omega, h.1.2⟩, h.2⟩

theorem Memory.wfFrom_write {lo i : Nat} {m : Memory} (v : Byte) (h : Memory.wfFrom lo m = true) (hi : lo ≤ i) :
    Memory.wfFrom lo (Memory.write m i v) = true := by
  induction m generalizing lo with
  | nil =>
    unfold Memory.write
    split <;> simp_all [Memory.wfFrom]
  | cons cell m ih =>
    obtain ⟨k, w⟩ := cell
    have h' := h
    simp only [Memory.wfFrom, Bool.and_eq_true, decide_eq_true_eq] at h
    obtain ⟨⟨hlo, hw⟩, hm⟩ := h
    simp only [Memory.write]
    split_ifs with h1 h2 h2 h3
    · exact h'
    · simp only [Memory.wfFrom, Bool.and_eq_true, decide_eq_true_eq]
      exact ⟨⟨hi, by simpa using h2⟩, ⟨by omega, hw⟩, hm⟩
    · exact Memory.wfFrom_mono hm (by omega)
    · simp only [Memory.wfFrom, Bool.and_eq_true, decide_eq_true_eq]
      subst h2
      exact ⟨⟨hi, by simpa using h3⟩, hm⟩
    · simp only [Memory.wfFrom, Bool.and_eq_true, decide_eq_true_eq]
      exact ⟨⟨hlo, hw⟩, ih hm (by omega)⟩

/-- A write keeps the canonical form. -/
theorem Memory.wf_write {m : Memory} (i : Nat) (v : Byte) (h : Memory.wf m = true) :
    Memory.wf (Memory.write m i v) = true := Memory.wfFrom_write v h (Nat.zero_le i)

/-- A write inside the size keeps every entry inside the size. -/
theorem Memory.fits_write {size i : Nat} {m : Memory} (v : Byte) (h : Memory.fits size m = true) (hi : i < size) :
    Memory.fits size (Memory.write m i v) = true := by
  induction m with
  | nil =>
    unfold Memory.write
    split <;> simp_all [Memory.fits]
  | cons cell m ih =>
    obtain ⟨k, w⟩ := cell
    simp only [Memory.fits, Bool.and_eq_true, decide_eq_true_eq] at h
    simp only [Memory.write]
    split_ifs <;> simp_all [Memory.fits]

/-- Filling a store keeps the canonical form and the size. -/
theorem Memory.fill_ok (size : Nat) (bytes : List Byte) :
    ∀ (m : Memory) (i : Nat), Memory.wf m = true → Memory.fits size m = true →
      Memory.wf (Memory.fill size m i bytes) = true ∧ Memory.fits size (Memory.fill size m i bytes) = true := by
  induction bytes with
  | nil => exact fun m i hw hf => ⟨hw, hf⟩
  | cons v bytes ih =>
    intro m i hw hf
    simp only [Memory.fill]
    by_cases hi : i < size
    · simp only [hi, if_true]
      exact ih _ _ (Memory.wf_write i v hw) (Memory.fits_write v hf hi)
    · simp only [hi, if_false]
      exact ih _ _ hw hf

/-- A filled store is canonical and holds nothing beyond its size. -/
theorem Memory.ofBytes_ok (size : Nat) (bytes : List Byte) :
    Memory.wf (Memory.ofBytes size bytes) = true ∧ Memory.fits size (Memory.ofBytes size bytes) = true :=
  Memory.fill_ok size bytes [] 0 rfl rfl

/-- What a filled store reads as: the bytes given inside the size, what was there elsewhere. -/
theorem Memory.read_fill (size : Nat) (bytes : List Byte) :
    ∀ (m : Memory) (i : Nat), Memory.wf m = true → ∀ j,
      Memory.read (Memory.fill size m i bytes) j =
        if i ≤ j ∧ j < size ∧ j - i < bytes.length then bytes.getD (j - i) 0#8 else Memory.read m j := by
  induction bytes with
  | nil => intro m i _ j; simp [Memory.fill]
  | cons v bytes ih =>
    intro m i hw j
    have hw' : Memory.wf (if i < size then Memory.write m i v else m) = true := by
      split_ifs
      · exact Memory.wf_write i v hw
      · exact hw
    have hother : j ≠ i → Memory.read (if i < size then Memory.write m i v else m) j = Memory.read m j := by
      intro hne
      split_ifs
      · exact Memory.read_write_other m v hne
      · rfl
    have hsame : j = i → Memory.read (if i < size then Memory.write m i v else m) j =
        if i < size then v else Memory.read m j := by
      rintro rfl
      split_ifs
      · exact Memory.read_write_same j v hw
      · rfl
    simp only [Memory.fill]
    rw [ih _ _ hw' j]
    generalize Memory.read (if i < size then Memory.write m i v else m) j = x at hother hsame
    rcases Nat.lt_trichotomy j i with hj | hj | hj
    · rw [if_neg (by omega), if_neg (by omega), hother (by omega)]
    · subst hj
      rw [if_neg (by omega), hsame rfl]
      by_cases hs : j < size <;> simp [hs]
    · obtain ⟨d, rfl⟩ : ∃ d, j = i + 1 + d := ⟨j - (i + 1), by omega⟩
      have e1 : i + 1 + d - (i + 1) = d := by omega
      have e2 : i + 1 + d - i = d + 1 := by omega
      rw [e1, e2, hother (by omega)]
      by_cases hc : i + 1 + d < size ∧ d < bytes.length
      · rw [if_pos (by omega), if_pos ⟨by omega, hc.1, by simpa using hc.2⟩, List.getD_cons_succ]
      · rw [if_neg (by omega), if_neg (by simp only [List.length_cons]; omega)]

end Sys2Proof.Machine
end

