-- ==== Sys2Proof/Laws/State.lean ====
section
/-! SUPPORT. State.lean: what each update of the state leaves unchanged, field by field, so that no later proof unfolds
a record update. -/

namespace Sys2Proof.Machine

/-! ### Writing a byte register -/

@[simp] theorem State.setReg_flags (s : State) (r : Reg8) (v : Byte) : (s.setReg r v).flags = s.flags := by cases r <;> rfl
@[simp] theorem State.setReg_sp (s : State) (r : Reg8) (v : Byte) : (s.setReg r v).sp = s.sp := by cases r <;> rfl
@[simp] theorem State.setReg_pc (s : State) (r : Reg8) (v : Byte) : (s.setReg r v).pc = s.pc := by cases r <;> rfl
@[simp] theorem State.setReg_ie (s : State) (r : Reg8) (v : Byte) : (s.setReg r v).ie = s.ie := by cases r <;> rfl
@[simp] theorem State.setReg_bootOff (s : State) (r : Reg8) (v : Byte) : (s.setReg r v).bootOff = s.bootOff := by cases r <;> rfl
@[simp] theorem State.setReg_extRam (s : State) (r : Reg8) (v : Byte) : (s.setReg r v).extRam = s.extRam := by cases r <;> rfl
@[simp] theorem State.setReg_vram (s : State) (r : Reg8) (v : Byte) : (s.setReg r v).vram = s.vram := by cases r <;> rfl
@[simp] theorem State.setReg_wram (s : State) (r : Reg8) (v : Byte) : (s.setReg r v).wram = s.wram := by cases r <;> rfl
@[simp] theorem State.setReg_oam (s : State) (r : Reg8) (v : Byte) : (s.setReg r v).oam = s.oam := by cases r <;> rfl
@[simp] theorem State.setReg_hram (s : State) (r : Reg8) (v : Byte) : (s.setReg r v).hram = s.hram := by cases r <;> rfl
@[simp] theorem State.setReg_ppu (s : State) (r : Reg8) (v : Byte) : (s.setReg r v).ppu = s.ppu := by cases r <;> rfl
@[simp] theorem State.setReg_launch (s : State) (r : Reg8) (v : Byte) : (s.setReg r v).launch = s.launch := by cases r <;> rfl
@[simp] theorem State.setReg_haltedBy (s : State) (r : Reg8) (v : Byte) : (s.setReg r v).haltedBy = s.haltedBy := by cases r <;> rfl
@[simp] theorem State.setReg_draws (s : State) (r : Reg8) (v : Byte) : (s.setReg r v).draws = s.draws := by cases r <;> rfl

@[simp] theorem State.reg_setReg_same (s : State) (r : Reg8) (v : Byte) : (s.setReg r v).reg r = v := by cases r <;> rfl

theorem State.reg_setReg_other (s : State) {r q : Reg8} (v : Byte) (h : q ≠ r) : (s.setReg r v).reg q = s.reg q := by
  cases r <;> cases q <;> first | rfl | exact absurd rfl h

@[simp] theorem State.reg_setFlags (s : State) (f : Flags) (r : Reg8) : (s.setFlags f).reg r = s.reg r := by cases r <;> rfl

@[simp] theorem State.pair_setFlags (s : State) (f : Flags) (p : Pair) : (s.setFlags f).pair p = s.pair p := by
  cases p <;> rfl

/-! ### Writing a pair -/

@[simp] theorem State.setPair_flags (s : State) (p : Pair) (v : Word) : (s.setPair p v).flags = s.flags := by cases p <;> rfl
@[simp] theorem State.setPair_pc (s : State) (p : Pair) (v : Word) : (s.setPair p v).pc = s.pc := by cases p <;> rfl
@[simp] theorem State.setPair_ie (s : State) (p : Pair) (v : Word) : (s.setPair p v).ie = s.ie := by cases p <;> rfl
@[simp] theorem State.setPair_bootOff (s : State) (p : Pair) (v : Word) : (s.setPair p v).bootOff = s.bootOff := by cases p <;> rfl
@[simp] theorem State.setPair_extRam (s : State) (p : Pair) (v : Word) : (s.setPair p v).extRam = s.extRam := by cases p <;> rfl
@[simp] theorem State.setPair_vram (s : State) (p : Pair) (v : Word) : (s.setPair p v).vram = s.vram := by cases p <;> rfl
@[simp] theorem State.setPair_wram (s : State) (p : Pair) (v : Word) : (s.setPair p v).wram = s.wram := by cases p <;> rfl
@[simp] theorem State.setPair_oam (s : State) (p : Pair) (v : Word) : (s.setPair p v).oam = s.oam := by cases p <;> rfl
@[simp] theorem State.setPair_hram (s : State) (p : Pair) (v : Word) : (s.setPair p v).hram = s.hram := by cases p <;> rfl
@[simp] theorem State.setPair_ppu (s : State) (p : Pair) (v : Word) : (s.setPair p v).ppu = s.ppu := by cases p <;> rfl
@[simp] theorem State.setPair_launch (s : State) (p : Pair) (v : Word) : (s.setPair p v).launch = s.launch := by cases p <;> rfl
@[simp] theorem State.setPair_haltedBy (s : State) (p : Pair) (v : Word) : (s.setPair p v).haltedBy = s.haltedBy := by cases p <;> rfl
@[simp] theorem State.setPair_draws (s : State) (p : Pair) (v : Word) : (s.setPair p v).draws = s.draws := by cases p <;> rfl

/-! ### Writing the flags -/

@[simp] theorem State.setFlags_a (s : State) (f : Flags) : (s.setFlags f).a = s.a := rfl
@[simp] theorem State.setFlags_b (s : State) (f : Flags) : (s.setFlags f).b = s.b := rfl
@[simp] theorem State.setFlags_c (s : State) (f : Flags) : (s.setFlags f).c = s.c := rfl
@[simp] theorem State.setFlags_d (s : State) (f : Flags) : (s.setFlags f).d = s.d := rfl
@[simp] theorem State.setFlags_e (s : State) (f : Flags) : (s.setFlags f).e = s.e := rfl
@[simp] theorem State.setFlags_h (s : State) (f : Flags) : (s.setFlags f).h = s.h := rfl
@[simp] theorem State.setFlags_l (s : State) (f : Flags) : (s.setFlags f).l = s.l := rfl
@[simp] theorem State.setFlags_flags (s : State) (f : Flags) : (s.setFlags f).flags = f := rfl
@[simp] theorem State.setFlags_sp (s : State) (f : Flags) : (s.setFlags f).sp = s.sp := rfl
@[simp] theorem State.setFlags_pc (s : State) (f : Flags) : (s.setFlags f).pc = s.pc := rfl
@[simp] theorem State.setFlags_ie (s : State) (f : Flags) : (s.setFlags f).ie = s.ie := rfl
@[simp] theorem State.setFlags_bootOff (s : State) (f : Flags) : (s.setFlags f).bootOff = s.bootOff := rfl
@[simp] theorem State.setFlags_extRam (s : State) (f : Flags) : (s.setFlags f).extRam = s.extRam := rfl
@[simp] theorem State.setFlags_vram (s : State) (f : Flags) : (s.setFlags f).vram = s.vram := rfl
@[simp] theorem State.setFlags_wram (s : State) (f : Flags) : (s.setFlags f).wram = s.wram := rfl
@[simp] theorem State.setFlags_oam (s : State) (f : Flags) : (s.setFlags f).oam = s.oam := rfl
@[simp] theorem State.setFlags_hram (s : State) (f : Flags) : (s.setFlags f).hram = s.hram := rfl
@[simp] theorem State.setFlags_ppu (s : State) (f : Flags) : (s.setFlags f).ppu = s.ppu := rfl
@[simp] theorem State.setFlags_launch (s : State) (f : Flags) : (s.setFlags f).launch = s.launch := rfl
@[simp] theorem State.setFlags_haltedBy (s : State) (f : Flags) : (s.setFlags f).haltedBy = s.haltedBy := rfl
@[simp] theorem State.setFlags_draws (s : State) (f : Flags) : (s.setFlags f).draws = s.draws := rfl

/-! ### Moving HL after an indirect access -/

@[simp] theorem State.afterIndirect_flags (s : State) (i : Indirect) (w : Word) : (s.afterIndirect i w).flags = s.flags := by
  cases i <;> rfl
@[simp] theorem State.afterIndirect_sp (s : State) (i : Indirect) (w : Word) : (s.afterIndirect i w).sp = s.sp := by
  cases i <;> rfl
@[simp] theorem State.afterIndirect_pc (s : State) (i : Indirect) (w : Word) : (s.afterIndirect i w).pc = s.pc := by
  cases i <;> rfl
@[simp] theorem State.afterIndirect_ie (s : State) (i : Indirect) (w : Word) : (s.afterIndirect i w).ie = s.ie := by
  cases i <;> rfl
@[simp] theorem State.afterIndirect_bootOff (s : State) (i : Indirect) (w : Word) : (s.afterIndirect i w).bootOff = s.bootOff := by
  cases i <;> rfl
@[simp] theorem State.afterIndirect_extRam (s : State) (i : Indirect) (w : Word) : (s.afterIndirect i w).extRam = s.extRam := by
  cases i <;> rfl
@[simp] theorem State.afterIndirect_vram (s : State) (i : Indirect) (w : Word) : (s.afterIndirect i w).vram = s.vram := by
  cases i <;> rfl
@[simp] theorem State.afterIndirect_wram (s : State) (i : Indirect) (w : Word) : (s.afterIndirect i w).wram = s.wram := by
  cases i <;> rfl
@[simp] theorem State.afterIndirect_oam (s : State) (i : Indirect) (w : Word) : (s.afterIndirect i w).oam = s.oam := by
  cases i <;> rfl
@[simp] theorem State.afterIndirect_hram (s : State) (i : Indirect) (w : Word) : (s.afterIndirect i w).hram = s.hram := by
  cases i <;> rfl
@[simp] theorem State.afterIndirect_ppu (s : State) (i : Indirect) (w : Word) : (s.afterIndirect i w).ppu = s.ppu := by
  cases i <;> rfl
@[simp] theorem State.afterIndirect_launch (s : State) (i : Indirect) (w : Word) : (s.afterIndirect i w).launch = s.launch := by
  cases i <;> rfl
@[simp] theorem State.afterIndirect_haltedBy (s : State) (i : Indirect) (w : Word) : (s.afterIndirect i w).haltedBy = s.haltedBy := by
  cases i <;> rfl
@[simp] theorem State.afterIndirect_draws (s : State) (i : Indirect) (w : Word) : (s.afterIndirect i w).draws = s.draws := by
  cases i <;> rfl

/-! ### Advancing the PPU -/

@[simp] theorem advancePpu_a (n : Nat) (s : State) : (advancePpu n s).a = s.a := rfl
@[simp] theorem advancePpu_b (n : Nat) (s : State) : (advancePpu n s).b = s.b := rfl
@[simp] theorem advancePpu_c (n : Nat) (s : State) : (advancePpu n s).c = s.c := rfl
@[simp] theorem advancePpu_d (n : Nat) (s : State) : (advancePpu n s).d = s.d := rfl
@[simp] theorem advancePpu_e (n : Nat) (s : State) : (advancePpu n s).e = s.e := rfl
@[simp] theorem advancePpu_h (n : Nat) (s : State) : (advancePpu n s).h = s.h := rfl
@[simp] theorem advancePpu_l (n : Nat) (s : State) : (advancePpu n s).l = s.l := rfl
@[simp] theorem advancePpu_flags (n : Nat) (s : State) : (advancePpu n s).flags = s.flags := rfl
@[simp] theorem advancePpu_sp (n : Nat) (s : State) : (advancePpu n s).sp = s.sp := rfl
@[simp] theorem advancePpu_pc (n : Nat) (s : State) : (advancePpu n s).pc = s.pc := rfl
@[simp] theorem advancePpu_ie (n : Nat) (s : State) : (advancePpu n s).ie = s.ie := rfl
@[simp] theorem advancePpu_bootOff (n : Nat) (s : State) : (advancePpu n s).bootOff = s.bootOff := rfl
@[simp] theorem advancePpu_extRam (n : Nat) (s : State) : (advancePpu n s).extRam = s.extRam := rfl
@[simp] theorem advancePpu_vram (n : Nat) (s : State) : (advancePpu n s).vram = s.vram := rfl
@[simp] theorem advancePpu_wram (n : Nat) (s : State) : (advancePpu n s).wram = s.wram := rfl
@[simp] theorem advancePpu_oam (n : Nat) (s : State) : (advancePpu n s).oam = s.oam := rfl
@[simp] theorem advancePpu_hram (n : Nat) (s : State) : (advancePpu n s).hram = s.hram := rfl
@[simp] theorem advancePpu_ppu (n : Nat) (s : State) : (advancePpu n s).ppu = s.ppu.cycle (s.ppu.total + n) := rfl
@[simp] theorem advancePpu_launch (n : Nat) (s : State) : (advancePpu n s).launch = s.launch := rfl
@[simp] theorem advancePpu_haltedBy (n : Nat) (s : State) : (advancePpu n s).haltedBy = s.haltedBy := rfl
@[simp] theorem advancePpu_draws (n : Nat) (s : State) : (advancePpu n s).draws = s.draws := rfl

end Sys2Proof.Machine
end

