-- ==== Sys2Proof/Laws/Ops.lean ====
section
/-! SUPPORT. Ops.lean: what the address decoder, a read inside a step and a fetch can do, once each. -/

namespace Sys2Proof.Machine

/-! ### What a bus write leaves unchanged -/

@[simp] theorem memWrite_a (s : State) (w : Word) (v : Byte) : (memWrite s w v).a = s.a := by
  unfold memWrite; split <;> first | rfl | (split <;> rfl)
@[simp] theorem memWrite_b (s : State) (w : Word) (v : Byte) : (memWrite s w v).b = s.b := by
  unfold memWrite; split <;> first | rfl | (split <;> rfl)
@[simp] theorem memWrite_c (s : State) (w : Word) (v : Byte) : (memWrite s w v).c = s.c := by
  unfold memWrite; split <;> first | rfl | (split <;> rfl)
@[simp] theorem memWrite_d (s : State) (w : Word) (v : Byte) : (memWrite s w v).d = s.d := by
  unfold memWrite; split <;> first | rfl | (split <;> rfl)
@[simp] theorem memWrite_e (s : State) (w : Word) (v : Byte) : (memWrite s w v).e = s.e := by
  unfold memWrite; split <;> first | rfl | (split <;> rfl)
@[simp] theorem memWrite_h (s : State) (w : Word) (v : Byte) : (memWrite s w v).h = s.h := by
  unfold memWrite; split <;> first | rfl | (split <;> rfl)
@[simp] theorem memWrite_l (s : State) (w : Word) (v : Byte) : (memWrite s w v).l = s.l := by
  unfold memWrite; split <;> first | rfl | (split <;> rfl)
@[simp] theorem memWrite_flags (s : State) (w : Word) (v : Byte) : (memWrite s w v).flags = s.flags := by
  unfold memWrite; split <;> first | rfl | (split <;> rfl)
@[simp] theorem memWrite_sp (s : State) (w : Word) (v : Byte) : (memWrite s w v).sp = s.sp := by
  unfold memWrite; split <;> first | rfl | (split <;> rfl)
@[simp] theorem memWrite_pc (s : State) (w : Word) (v : Byte) : (memWrite s w v).pc = s.pc := by
  unfold memWrite; split <;> first | rfl | (split <;> rfl)
@[simp] theorem memWrite_ppu (s : State) (w : Word) (v : Byte) : (memWrite s w v).ppu = s.ppu := by
  unfold memWrite; split <;> first | rfl | (split <;> rfl)
@[simp] theorem memWrite_launch (s : State) (w : Word) (v : Byte) : (memWrite s w v).launch = s.launch := by
  unfold memWrite; split <;> first | rfl | (split <;> rfl)
@[simp] theorem memWrite_haltedBy (s : State) (w : Word) (v : Byte) : (memWrite s w v).haltedBy = s.haltedBy := by
  unfold memWrite; split <;> first | rfl | (split <;> rfl)
@[simp] theorem memWrite_draws (s : State) (w : Word) (v : Byte) : (memWrite s w v).draws = s.draws := by
  unfold memWrite; split <;> first | rfl | (split <;> rfl)

@[simp] theorem memWrite_reg (s : State) (w : Word) (v : Byte) (r : Reg8) : (memWrite s w v).reg r = s.reg r := by
  cases r <;> simp [State.reg]

@[simp] theorem memWrite_pair (s : State) (w : Word) (v : Byte) (p : Pair) : (memWrite s w v).pair p = s.pair p := by
  cases p <;> simp [State.pair]

/-! ### The bus read looks at nothing but the stores, the latch, IE, the PPU mode and the launch -/

/-- Two states that agree on what the decoder looks at read alike. -/
theorem busRead_congr {s t : State} (hl : t.launch = s.launch) (hb : t.bootOff = s.bootOff) (hp : t.ppu = s.ppu)
    (he : t.extRam = s.extRam) (hv : t.vram = s.vram) (hw : t.wram = s.wram) (ho : t.oam = s.oam)
    (hh : t.hram = s.hram) (hi : t.ie = s.ie) (w : Word) : busRead t w = busRead s w := by
  unfold busRead cartRead vramBlocked
  rw [hl, hb, hp, he, hv, hw, ho, hh, hi]

@[simp] theorem busRead_setReg (s : State) (r : Reg8) (v : Byte) (w : Word) : busRead (s.setReg r v) w = busRead s w :=
  busRead_congr (by simp) (by simp) (by simp) (by simp) (by simp) (by simp) (by simp) (by simp) (by simp) w

@[simp] theorem busRead_setPair (s : State) (p : Pair) (v w : Word) : busRead (s.setPair p v) w = busRead s w :=
  busRead_congr (by simp) (by simp) (by simp) (by simp) (by simp) (by simp) (by simp) (by simp) (by simp) w

@[simp] theorem busRead_setFlags (s : State) (f : Flags) (w : Word) : busRead (s.setFlags f) w = busRead s w := rfl

@[simp] theorem busRead_afterIndirect (s : State) (i : Indirect) (a w : Word) :
    busRead (s.afterIndirect i a) w = busRead s w :=
  busRead_congr (by simp) (by simp) (by simp) (by simp) (by simp) (by simp) (by simp) (by simp) (by simp) w

@[simp] theorem busRead_setPc (s : State) (p w : Word) : busRead { s with pc := p } w = busRead s w := rfl

@[simp] theorem busRead_setDraws (s : State) (n : Nat) (w : Word) : busRead { s with draws := n } w = busRead s w := rfl

/-! ### A read inside a step -/

theorem memRead_byte {s : State} {w : Word} {v : Byte} (h : busRead s w = .byte v) (k : Byte → State → Out) :
    memRead s w k = k v s := by unfold memRead; rw [h]

theorem memRead_draw {s : State} {w : Word} (h : busRead s w = .draw) (k : Byte → State → Out) :
    memRead s w k = k (Config.drawByte s.draws) { s with draws := s.draws + 1 } := by unfold memRead; rw [h]

theorem memRead_beyondRom {s : State} {w : Word} (h : busRead s w = .beyondRom) (k : Byte → State → Out) :
    memRead s w k = faultStop (.cartRange w) s := by unfold memRead; rw [h]

/-- Everything a read inside a step can do when the step goes on: it hands on a byte, and changes at most the counter of
draws. -/
theorem memRead_next {s t : State} {w : Word} {k : Byte → State → Out} (h : memRead s w k = .next t) :
    ∃ v n, k v { s with draws := n } = .next t := by
  unfold memRead at h
  split at h
  · exact ⟨_, s.draws, h⟩
  · exact ⟨_, _, h⟩
  · exact absurd h (by simp [faultStop])

/-- Everything a fetch can do when the step goes on: it hands on a byte, and changes PC and at most the counter of
draws. -/
theorem fetch8_next {s t : State} {k : Byte → State → Out} (h : fetch8 s k = .next t) :
    ∃ v n, k v { s with pc := s.pc + 1#16, draws := n } = .next t := by
  obtain ⟨v, n, h⟩ := memRead_next h
  exact ⟨v, n, h⟩

end Sys2Proof.Machine
end

