-- ==== Sys2Proof/Laws/Exec.lean ====
section
/-! SUPPORT. Exec.lean: the 256 meanings by their rule's form, so that a proof about `exec` has one case per rule. -/

namespace Sys2Proof.Machine

/-- The shared operation behind each rule's meanings. -/
def runForm (f : Form) (s : State) : Out :=
  match f with
  | .nop => execNop s
  | .stop => execStop s
  | .ldPairImm p v => ldPairImm p v s
  | .ldIndA i => storeAIndirect i s
  | .ldAInd i => loadAIndirect i s
  | .incPair p => incPair p s
  | .decPair p => decPair p s
  | .incReg r => incReg r s
  | .incMem => incMem s
  | .decReg r => decReg r s
  | .decMem => decMem s
  | .ldRegImm r v => ldRegImm r v s
  | .ldMemImm v => ldMemImm v s
  | .ldA16Sp v => storeSp v s
  | .rlca => execRlca s
  | .rrca => execRrca s
  | .rla => execRla s
  | .rra => execRra s
  | .addHl p => addHl p s
  | .jr e => jumpRelative e s
  | .jrCond cc e => jumpRelativeIf cc e s
  | .daa => execDaa s
  | .cpl => execCpl s
  | .scf => execScf s
  | .ccf => execCcf s
  | .ldRegReg r r' => copyReg r r' s
  | .ldRegMem r => loadReg r s
  | .ldMemReg r => storeReg r s
  | .addReg r => addReg r s
  | .addMem => addMem s
  | .adcReg r => adcReg r s
  | .adcMem => adcMem s
  | .ldhStore o => ldhStore o s
  | .ldhLoad o => ldhLoad o s
  | .unbound op => unboundOp op s

/-- Every instruction runs its rule's shared operation on the operands its row names. -/
theorem exec_eq_runForm (i : Instr) (s : State) : exec i s = runForm i.form s := by cases i <;> rfl

/-- Everything a read inside a step can do, for a continuation that always completes: complete, or stop at a read beyond
the ROM. -/
theorem memRead_next_or_stop (s : State) (w : Word) (k : Byte → State → State) :
    (∃ t, memRead s w (fun v u => .next (k v u)) = .next t) ∨
    (busRead s w = .beyondRom ∧ memRead s w (fun v u => .next (k v u)) = faultStop (.cartRange w) s) := by
  unfold memRead
  split
  · exact .inl ⟨_, rfl⟩
  · exact .inl ⟨_, rfl⟩
  · exact .inr ⟨by assumption, rfl⟩

/-- Everything an instruction can do: complete, stop at its data read beyond the ROM with nothing changed, or, unbound
and under UNBOUND_POLICY refuse, be refused with nothing changed. -/
theorem exec_cases (i : Instr) (s : State) :
    (∃ t, exec i s = .next t) ∨
    (∃ w, busRead s w = .beyondRom ∧ exec i s = faultStop (.cartRange w) s) ∨
    (∃ op, i.form = .unbound op ∧ s.launch.unboundPolicy = .refuse ∧ exec i s = refuseStop op s) := by
  rw [exec_eq_runForm]
  have hread : ∀ (w : Word) (k : Byte → State → State) (o : Out), o = memRead s w (fun v u => .next (k v u)) →
      (∃ t, o = .next t) ∨ (∃ w', busRead s w' = .beyondRom ∧ o = faultStop (.cartRange w') s) ∨
      (∃ op, i.form = .unbound op ∧ s.launch.unboundPolicy = .refuse ∧ o = refuseStop op s) := by
    rintro w k o rfl
    rcases memRead_next_or_stop s w k with h | h
    · exact .inl h
    · exact .inr (.inl ⟨w, h⟩)
  cases hf : i.form with
  | ldAInd x =>
    rw [hf] at hread
    exact hread (s.indirect x) (fun v t => (t.setReg .a v).afterIndirect x (s.indirect x)) _ rfl
  | incMem =>
    rw [hf] at hread
    exact hread (s.pair .hl)
      (fun v t => (memWrite t (s.pair .hl) (inc8 s.flags v).res).setFlags (inc8 s.flags v).flags) _ rfl
  | decMem =>
    rw [hf] at hread
    exact hread (s.pair .hl)
      (fun v t => (memWrite t (s.pair .hl) (dec8 s.flags v).res).setFlags (dec8 s.flags v).flags) _ rfl
  | ldRegMem r => rw [hf] at hread; exact hread (s.pair .hl) (fun v t => t.setReg r v) _ rfl
  | addMem => rw [hf] at hread; exact hread (s.pair .hl) (fun v t => addToA v false t) _ rfl
  | adcMem => rw [hf] at hread; exact hread (s.pair .hl) (fun v t => addToA v t.flags.c t) _ rfl
  | ldhLoad o => rw [hf] at hread; exact hread (zeroPage o) (fun v t => t.setReg .a v) _ rfl
  | jrCond cc e =>
    refine .inl ?_
    simp only [runForm, jumpRelativeIf]
    split <;> exact ⟨_, rfl⟩
  | unbound op =>
    simp only [runForm, unboundOp]
    cases hp : s.launch.unboundPolicy with
    | nop => exact .inl ⟨_, rfl⟩
    | refuse => exact .inr (.inr ⟨op, rfl, rfl, rfl⟩)
  | nop | stop | ldPairImm p v | ldIndA x | incPair p | decPair p | incReg r | decReg r | ldRegImm r v | ldMemImm v
  | ldA16Sp v | rlca | rrca | rla | rra | addHl p | jr e | daa | cpl | scf | ccf | ldRegReg r r' | ldMemReg r | addReg r
  | adcReg r | ldhStore o => exact .inl ⟨_, rfl⟩

end Sys2Proof.Machine
end

