-- ==== Sys2Proof/Laws/Map.lean ====
section
/-! SUPPORT. Map.lean: where each region of the address map lies, and what a write leaves of the stores' canonical
form. -/

namespace Sys2Proof.Machine

/-! ### The regions -/

/-- The first and the last address of a region (20_memory.md R53). -/
def Region.bounds : Region → Nat × Nat
  | .bootOverlay => (0x0000, 0x00FF)
  | .cartRom => (0x0100, 0x7FFF)
  | .vram => (0x8000, 0x9FFF)
  | .extRam => (0xA000, 0xBFFF)
  | .wram => (0xC000, 0xDFFF)
  | .echo => (0xE000, 0xFDFF)
  | .oam => (0xFE00, 0xFE9F)
  | .unusable => (0xFEA0, 0xFEFF)
  | .io => (0xFF00, 0xFF7F)
  | .hram => (0xFF80, 0xFFFE)
  | .ie => (0xFFFF, 0xFFFF)

/-- Every address lies within the bounds of its region. -/
theorem region_bounds (w : Word) : (region w).bounds.1 ≤ w.toNat ∧ w.toNat ≤ (region w).bounds.2 := by
  have hw := w.isLt
  unfold region
  by_cases h1 : w.toNat ≤ 0x00FF
  · rw [if_pos h1]; exact ⟨Nat.zero_le _, h1⟩
  rw [if_neg h1]
  by_cases h2 : w.toNat ≤ 0x7FFF
  · rw [if_pos h2]; exact ⟨by simp only [Region.bounds]; omega, h2⟩
  rw [if_neg h2]
  by_cases h3 : w.toNat ≤ 0x9FFF
  · rw [if_pos h3]; exact ⟨by simp only [Region.bounds]; omega, h3⟩
  rw [if_neg h3]
  by_cases h4 : w.toNat ≤ 0xBFFF
  · rw [if_pos h4]; exact ⟨by simp only [Region.bounds]; omega, h4⟩
  rw [if_neg h4]
  by_cases h5 : w.toNat ≤ 0xDFFF
  · rw [if_pos h5]; exact ⟨by simp only [Region.bounds]; omega, h5⟩
  rw [if_neg h5]
  by_cases h6 : w.toNat ≤ 0xFDFF
  · rw [if_pos h6]; exact ⟨by simp only [Region.bounds]; omega, h6⟩
  rw [if_neg h6]
  by_cases h7 : w.toNat ≤ 0xFE9F
  · rw [if_pos h7]; exact ⟨by simp only [Region.bounds]; omega, h7⟩
  rw [if_neg h7]
  by_cases h8 : w.toNat ≤ 0xFEFF
  · rw [if_pos h8]; exact ⟨by simp only [Region.bounds]; omega, h8⟩
  rw [if_neg h8]
  by_cases h9 : w.toNat ≤ 0xFF7F
  · rw [if_pos h9]; exact ⟨by simp only [Region.bounds]; omega, h9⟩
  rw [if_neg h9]
  by_cases h10 : w.toNat ≤ 0xFFFE
  · rw [if_pos h10]; exact ⟨by simp only [Region.bounds]; omega, h10⟩
  rw [if_neg h10]
  exact ⟨by simp only [Region.bounds]; omega, by simp only [Region.bounds]; omega⟩

/-- An address within the bounds of a region lies in it: no two regions overlap. -/
theorem region_of_bounds {w : Word} {r : Region} (h : r.bounds.1 ≤ w.toNat ∧ w.toNat ≤ r.bounds.2) : region w = r := by
  have hw := region_bounds w
  generalize region w = q at hw
  cases r <;> cases q <;> first | rfl | (simp only [Region.bounds] at h hw; omega)

/-! ### Stores keep their canonical form -/

/-- A write keeps every store canonical and within its size. -/
theorem storesOk_memWrite {s : State} (w : Word) (v : Byte) (h : s.StoresOk) : (memWrite s w v).StoresOk := by
  obtain ⟨⟨he, he'⟩, ⟨hv, hv'⟩, ⟨hw, hw'⟩, ⟨ho, ho'⟩, hh, hh'⟩ := h
  have hr := region_bounds w
  unfold memWrite
  cases hq : region w <;> rw [hq] at hr <;> simp only [Region.bounds] at hr
  case vram =>
    exact ⟨⟨he, he'⟩, ⟨Memory.wf_write _ _ hv, Memory.fits_write _ hv' (by simp only [Config.vramSize]; omega)⟩,
      ⟨hw, hw'⟩, ⟨ho, ho'⟩, hh, hh'⟩
  case extRam =>
    dsimp only
    split
    · exact ⟨⟨Memory.wf_write _ _ he, Memory.fits_write _ he' (by assumption)⟩, ⟨hv, hv'⟩, ⟨hw, hw'⟩, ⟨ho, ho'⟩, hh, hh'⟩
    · exact ⟨⟨he, he'⟩, ⟨hv, hv'⟩, ⟨hw, hw'⟩, ⟨ho, ho'⟩, hh, hh'⟩
  case wram =>
    exact ⟨⟨he, he'⟩, ⟨hv, hv'⟩, ⟨Memory.wf_write _ _ hw, Memory.fits_write _ hw' (by simp only [Config.wramSize]; omega)⟩,
      ⟨ho, ho'⟩, hh, hh'⟩
  case echo =>
    exact ⟨⟨he, he'⟩, ⟨hv, hv'⟩, ⟨Memory.wf_write _ _ hw, Memory.fits_write _ hw' (by simp only [Config.wramSize]; omega)⟩,
      ⟨ho, ho'⟩, hh, hh'⟩
  case oam =>
    exact ⟨⟨he, he'⟩, ⟨hv, hv'⟩, ⟨hw, hw'⟩,
      ⟨Memory.wf_write _ _ ho, Memory.fits_write _ ho' (by simp only [Config.oamSize]; omega)⟩, hh, hh'⟩
  case hram =>
    exact ⟨⟨he, he'⟩, ⟨hv, hv'⟩, ⟨hw, hw'⟩, ⟨ho, ho'⟩, Memory.wf_write _ _ hh,
      Memory.fits_write _ hh' (by simp only [Config.hramSize]; omega)⟩
  case io =>
    dsimp only
    split <;> exact ⟨⟨he, he'⟩, ⟨hv, hv'⟩, ⟨hw, hw'⟩, ⟨ho, ho'⟩, hh, hh'⟩
  all_goals exact ⟨⟨he, he'⟩, ⟨hv, hv'⟩, ⟨hw, hw'⟩, ⟨ho, ho'⟩, hh, hh'⟩

end Sys2Proof.Machine
end

