-- ==== Sys2Proof/Laws/PerInstr.lean ====
section
/-! SUPPORT. PerInstr.lean: statements about the instructions as syntax, one lemma per constructor. -/

namespace Sys2Proof.Laws

/-- The opcode map (30_encoding.md R113) read forwards and backwards agrees on this instruction: its opcode byte and
operand bytes decode to it, and its opcode byte calls for exactly the bytes the encoder writes after it. -/
def OpcodeMap.Statement (i : Instr) : Prop :=
  i.wf = true → decodeOperands i.opcode i.form.operandBytes = i ∧
    ∀ stopLength, (encode stopLength i).length = operandCount stopLength i.opcode + 1

/-- The statement for an instruction other than STOP, from its opcode byte. -/
theorem OpcodeMap.of_opcode {i : Instr} (op : Byte) (hop : i.opcode = op)
    (htail : ∀ n, encode n i = i.opcode :: i.form.operandBytes)
    (hdecode : i.wf = true → decodeOperands op i.form.operandBytes = i)
    (hcount : ∀ n, operandCount n op = i.form.operandBytes.length) : OpcodeMap.Statement i := by
  intro h
  refine ⟨by rw [hop]; exact hdecode h, fun n => ?_⟩
  rw [htail n, hop, hcount n, List.length_cons]

theorem OpcodeMap.nop : OpcodeMap.Statement .nop := fun _ => ⟨rfl, fun n => by cases n <;> rfl⟩
theorem OpcodeMap.ldBcD16 (v : Word) : OpcodeMap.Statement (.ldBcD16 v) :=
  OpcodeMap.of_opcode 0x01#8 rfl (fun _ => rfl) (fun _ => congrArg Instr.ldBcD16 (wordOf_bytes v)) (fun n => by cases n <;> rfl)
theorem OpcodeMap.ldIndBcA : OpcodeMap.Statement .ldIndBcA := fun _ => ⟨rfl, fun n => by cases n <;> rfl⟩
theorem OpcodeMap.incBc : OpcodeMap.Statement .incBc := fun _ => ⟨rfl, fun n => by cases n <;> rfl⟩
theorem OpcodeMap.incB : OpcodeMap.Statement .incB := fun _ => ⟨rfl, fun n => by cases n <;> rfl⟩
theorem OpcodeMap.decB : OpcodeMap.Statement .decB := fun _ => ⟨rfl, fun n => by cases n <;> rfl⟩
theorem OpcodeMap.ldBD8 (v : Byte) : OpcodeMap.Statement (.ldBD8 v) :=
  OpcodeMap.of_opcode 0x06#8 rfl (fun _ => rfl) (fun _ => rfl) (fun n => by cases n <;> rfl)
theorem OpcodeMap.rlca : OpcodeMap.Statement .rlca := fun _ => ⟨rfl, fun n => by cases n <;> rfl⟩
theorem OpcodeMap.ldA16Sp (v : Word) : OpcodeMap.Statement (.ldA16Sp v) :=
  OpcodeMap.of_opcode 0x08#8 rfl (fun _ => rfl) (fun _ => congrArg Instr.ldA16Sp (wordOf_bytes v)) (fun n => by cases n <;> rfl)
theorem OpcodeMap.addHlBc : OpcodeMap.Statement .addHlBc := fun _ => ⟨rfl, fun n => by cases n <;> rfl⟩
theorem OpcodeMap.ldAIndBc : OpcodeMap.Statement .ldAIndBc := fun _ => ⟨rfl, fun n => by cases n <;> rfl⟩
theorem OpcodeMap.decBc : OpcodeMap.Statement .decBc := fun _ => ⟨rfl, fun n => by cases n <;> rfl⟩
theorem OpcodeMap.incC : OpcodeMap.Statement .incC := fun _ => ⟨rfl, fun n => by cases n <;> rfl⟩
theorem OpcodeMap.decC : OpcodeMap.Statement .decC := fun _ => ⟨rfl, fun n => by cases n <;> rfl⟩
theorem OpcodeMap.ldCD8 (v : Byte) : OpcodeMap.Statement (.ldCD8 v) :=
  OpcodeMap.of_opcode 0x0E#8 rfl (fun _ => rfl) (fun _ => rfl) (fun n => by cases n <;> rfl)
theorem OpcodeMap.rrca : OpcodeMap.Statement .rrca := fun _ => ⟨rfl, fun n => by cases n <;> rfl⟩
theorem OpcodeMap.stop : OpcodeMap.Statement .stop := fun _ => ⟨rfl, fun n => by cases n <;> rfl⟩
theorem OpcodeMap.ldDeD16 (v : Word) : OpcodeMap.Statement (.ldDeD16 v) :=
  OpcodeMap.of_opcode 0x11#8 rfl (fun _ => rfl) (fun _ => congrArg Instr.ldDeD16 (wordOf_bytes v)) (fun n => by cases n <;> rfl)
theorem OpcodeMap.ldIndDeA : OpcodeMap.Statement .ldIndDeA := fun _ => ⟨rfl, fun n => by cases n <;> rfl⟩
theorem OpcodeMap.incDe : OpcodeMap.Statement .incDe := fun _ => ⟨rfl, fun n => by cases n <;> rfl⟩
theorem OpcodeMap.incD : OpcodeMap.Statement .incD := fun _ => ⟨rfl, fun n => by cases n <;> rfl⟩
theorem OpcodeMap.decD : OpcodeMap.Statement .decD := fun _ => ⟨rfl, fun n => by cases n <;> rfl⟩
theorem OpcodeMap.ldDD8 (v : Byte) : OpcodeMap.Statement (.ldDD8 v) :=
  OpcodeMap.of_opcode 0x16#8 rfl (fun _ => rfl) (fun _ => rfl) (fun n => by cases n <;> rfl)
theorem OpcodeMap.rla : OpcodeMap.Statement .rla := fun _ => ⟨rfl, fun n => by cases n <;> rfl⟩
theorem OpcodeMap.jrR8 (e : Int) : OpcodeMap.Statement (.jrR8 e) :=
  OpcodeMap.of_opcode 0x18#8 rfl (fun _ => rfl) (fun h => congrArg Instr.jrR8 (toInt_ofInt_of_offsetInRange h)) (fun n => by cases n <;> rfl)
theorem OpcodeMap.addHlDe : OpcodeMap.Statement .addHlDe := fun _ => ⟨rfl, fun n => by cases n <;> rfl⟩
theorem OpcodeMap.ldAIndDe : OpcodeMap.Statement .ldAIndDe := fun _ => ⟨rfl, fun n => by cases n <;> rfl⟩
theorem OpcodeMap.decDe : OpcodeMap.Statement .decDe := fun _ => ⟨rfl, fun n => by cases n <;> rfl⟩
theorem OpcodeMap.incE : OpcodeMap.Statement .incE := fun _ => ⟨rfl, fun n => by cases n <;> rfl⟩
theorem OpcodeMap.decE : OpcodeMap.Statement .decE := fun _ => ⟨rfl, fun n => by cases n <;> rfl⟩
theorem OpcodeMap.ldED8 (v : Byte) : OpcodeMap.Statement (.ldED8 v) :=
  OpcodeMap.of_opcode 0x1E#8 rfl (fun _ => rfl) (fun _ => rfl) (fun n => by cases n <;> rfl)
theorem OpcodeMap.rra : OpcodeMap.Statement .rra := fun _ => ⟨rfl, fun n => by cases n <;> rfl⟩
theorem OpcodeMap.jrNzR8 (e : Int) : OpcodeMap.Statement (.jrNzR8 e) :=
  OpcodeMap.of_opcode 0x20#8 rfl (fun _ => rfl) (fun h => congrArg Instr.jrNzR8 (toInt_ofInt_of_offsetInRange h)) (fun n => by cases n <;> rfl)
theorem OpcodeMap.ldHlD16 (v : Word) : OpcodeMap.Statement (.ldHlD16 v) :=
  OpcodeMap.of_opcode 0x21#8 rfl (fun _ => rfl) (fun _ => congrArg Instr.ldHlD16 (wordOf_bytes v)) (fun n => by cases n <;> rfl)
theorem OpcodeMap.ldHliA : OpcodeMap.Statement .ldHliA := fun _ => ⟨rfl, fun n => by cases n <;> rfl⟩
theorem OpcodeMap.incHl : OpcodeMap.Statement .incHl := fun _ => ⟨rfl, fun n => by cases n <;> rfl⟩
theorem OpcodeMap.incH : OpcodeMap.Statement .incH := fun _ => ⟨rfl, fun n => by cases n <;> rfl⟩
theorem OpcodeMap.decH : OpcodeMap.Statement .decH := fun _ => ⟨rfl, fun n => by cases n <;> rfl⟩
theorem OpcodeMap.ldHD8 (v : Byte) : OpcodeMap.Statement (.ldHD8 v) :=
  OpcodeMap.of_opcode 0x26#8 rfl (fun _ => rfl) (fun _ => rfl) (fun n => by cases n <;> rfl)
theorem OpcodeMap.daa : OpcodeMap.Statement .daa := fun _ => ⟨rfl, fun n => by cases n <;> rfl⟩
theorem OpcodeMap.jrZR8 (e : Int) : OpcodeMap.Statement (.jrZR8 e) :=
  OpcodeMap.of_opcode 0x28#8 rfl (fun _ => rfl) (fun h => congrArg Instr.jrZR8 (toInt_ofInt_of_offsetInRange h)) (fun n => by cases n <;> rfl)
theorem OpcodeMap.addHlHl : OpcodeMap.Statement .addHlHl := fun _ => ⟨rfl, fun n => by cases n <;> rfl⟩
theorem OpcodeMap.ldAHli : OpcodeMap.Statement .ldAHli := fun _ => ⟨rfl, fun n => by cases n <;> rfl⟩
theorem OpcodeMap.decHl : OpcodeMap.Statement .decHl := fun _ => ⟨rfl, fun n => by cases n <;> rfl⟩
theorem OpcodeMap.incL : OpcodeMap.Statement .incL := fun _ => ⟨rfl, fun n => by cases n <;> rfl⟩
theorem OpcodeMap.decL : OpcodeMap.Statement .decL := fun _ => ⟨rfl, fun n => by cases n <;> rfl⟩
theorem OpcodeMap.ldLD8 (v : Byte) : OpcodeMap.Statement (.ldLD8 v) :=
  OpcodeMap.of_opcode 0x2E#8 rfl (fun _ => rfl) (fun _ => rfl) (fun n => by cases n <;> rfl)
theorem OpcodeMap.cpl : OpcodeMap.Statement .cpl := fun _ => ⟨rfl, fun n => by cases n <;> rfl⟩
theorem OpcodeMap.jrNcR8 (e : Int) : OpcodeMap.Statement (.jrNcR8 e) :=
  OpcodeMap.of_opcode 0x30#8 rfl (fun _ => rfl) (fun h => congrArg Instr.jrNcR8 (toInt_ofInt_of_offsetInRange h)) (fun n => by cases n <;> rfl)
theorem OpcodeMap.ldSpD16 (v : Word) : OpcodeMap.Statement (.ldSpD16 v) :=
  OpcodeMap.of_opcode 0x31#8 rfl (fun _ => rfl) (fun _ => congrArg Instr.ldSpD16 (wordOf_bytes v)) (fun n => by cases n <;> rfl)
theorem OpcodeMap.ldHldA : OpcodeMap.Statement .ldHldA := fun _ => ⟨rfl, fun n => by cases n <;> rfl⟩
theorem OpcodeMap.incSp : OpcodeMap.Statement .incSp := fun _ => ⟨rfl, fun n => by cases n <;> rfl⟩
theorem OpcodeMap.incIndHl : OpcodeMap.Statement .incIndHl := fun _ => ⟨rfl, fun n => by cases n <;> rfl⟩
theorem OpcodeMap.decIndHl : OpcodeMap.Statement .decIndHl := fun _ => ⟨rfl, fun n => by cases n <;> rfl⟩
theorem OpcodeMap.ldIndHlD8 (v : Byte) : OpcodeMap.Statement (.ldIndHlD8 v) :=
  OpcodeMap.of_opcode 0x36#8 rfl (fun _ => rfl) (fun _ => rfl) (fun n => by cases n <;> rfl)
theorem OpcodeMap.scf : OpcodeMap.Statement .scf := fun _ => ⟨rfl, fun n => by cases n <;> rfl⟩
theorem OpcodeMap.jrCR8 (e : Int) : OpcodeMap.Statement (.jrCR8 e) :=
  OpcodeMap.of_opcode 0x38#8 rfl (fun _ => rfl) (fun h => congrArg Instr.jrCR8 (toInt_ofInt_of_offsetInRange h)) (fun n => by cases n <;> rfl)
theorem OpcodeMap.addHlSp : OpcodeMap.Statement .addHlSp := fun _ => ⟨rfl, fun n => by cases n <;> rfl⟩
theorem OpcodeMap.ldAHld : OpcodeMap.Statement .ldAHld := fun _ => ⟨rfl, fun n => by cases n <;> rfl⟩
theorem OpcodeMap.decSp : OpcodeMap.Statement .decSp := fun _ => ⟨rfl, fun n => by cases n <;> rfl⟩
theorem OpcodeMap.incA : OpcodeMap.Statement .incA := fun _ => ⟨rfl, fun n => by cases n <;> rfl⟩
theorem OpcodeMap.decA : OpcodeMap.Statement .decA := fun _ => ⟨rfl, fun n => by cases n <;> rfl⟩
theorem OpcodeMap.ldAD8 (v : Byte) : OpcodeMap.Statement (.ldAD8 v) :=
  OpcodeMap.of_opcode 0x3E#8 rfl (fun _ => rfl) (fun _ => rfl) (fun n => by cases n <;> rfl)
theorem OpcodeMap.ccf : OpcodeMap.Statement .ccf := fun _ => ⟨rfl, fun n => by cases n <;> rfl⟩
theorem OpcodeMap.ldBB : OpcodeMap.Statement .ldBB := fun _ => ⟨rfl, fun n => by cases n <;> rfl⟩
theorem OpcodeMap.ldBC : OpcodeMap.Statement .ldBC := fun _ => ⟨rfl, fun n => by cases n <;> rfl⟩
theorem OpcodeMap.ldBD : OpcodeMap.Statement .ldBD := fun _ => ⟨rfl, fun n => by cases n <;> rfl⟩
theorem OpcodeMap.ldBE : OpcodeMap.Statement .ldBE := fun _ => ⟨rfl, fun n => by cases n <;> rfl⟩
theorem OpcodeMap.ldBH : OpcodeMap.Statement .ldBH := fun _ => ⟨rfl, fun n => by cases n <;> rfl⟩
theorem OpcodeMap.ldBL : OpcodeMap.Statement .ldBL := fun _ => ⟨rfl, fun n => by cases n <;> rfl⟩
theorem OpcodeMap.ldBIndHl : OpcodeMap.Statement .ldBIndHl := fun _ => ⟨rfl, fun n => by cases n <;> rfl⟩
theorem OpcodeMap.ldBA : OpcodeMap.Statement .ldBA := fun _ => ⟨rfl, fun n => by cases n <;> rfl⟩
theorem OpcodeMap.ldCB : OpcodeMap.Statement .ldCB := fun _ => ⟨rfl, fun n => by cases n <;> rfl⟩
theorem OpcodeMap.ldCC : OpcodeMap.Statement .ldCC := fun _ => ⟨rfl, fun n => by cases n <;> rfl⟩
theorem OpcodeMap.ldCD : OpcodeMap.Statement .ldCD := fun _ => ⟨rfl, fun n => by cases n <;> rfl⟩
theorem OpcodeMap.ldCE : OpcodeMap.Statement .ldCE := fun _ => ⟨rfl, fun n => by cases n <;> rfl⟩
theorem OpcodeMap.ldCH : OpcodeMap.Statement .ldCH := fun _ => ⟨rfl, fun n => by cases n <;> rfl⟩
theorem OpcodeMap.ldCL : OpcodeMap.Statement .ldCL := fun _ => ⟨rfl, fun n => by cases n <;> rfl⟩
theorem OpcodeMap.ldCIndHl : OpcodeMap.Statement .ldCIndHl := fun _ => ⟨rfl, fun n => by cases n <;> rfl⟩
theorem OpcodeMap.ldCA : OpcodeMap.Statement .ldCA := fun _ => ⟨rfl, fun n => by cases n <;> rfl⟩
theorem OpcodeMap.ldDB : OpcodeMap.Statement .ldDB := fun _ => ⟨rfl, fun n => by cases n <;> rfl⟩
theorem OpcodeMap.ldDC : OpcodeMap.Statement .ldDC := fun _ => ⟨rfl, fun n => by cases n <;> rfl⟩
theorem OpcodeMap.ldDD : OpcodeMap.Statement .ldDD := fun _ => ⟨rfl, fun n => by cases n <;> rfl⟩
theorem OpcodeMap.ldDE : OpcodeMap.Statement .ldDE := fun _ => ⟨rfl, fun n => by cases n <;> rfl⟩
theorem OpcodeMap.ldDH : OpcodeMap.Statement .ldDH := fun _ => ⟨rfl, fun n => by cases n <;> rfl⟩
theorem OpcodeMap.ldDL : OpcodeMap.Statement .ldDL := fun _ => ⟨rfl, fun n => by cases n <;> rfl⟩
theorem OpcodeMap.ldDIndHl : OpcodeMap.Statement .ldDIndHl := fun _ => ⟨rfl, fun n => by cases n <;> rfl⟩
theorem OpcodeMap.ldDA : OpcodeMap.Statement .ldDA := fun _ => ⟨rfl, fun n => by cases n <;> rfl⟩
theorem OpcodeMap.ldEB : OpcodeMap.Statement .ldEB := fun _ => ⟨rfl, fun n => by cases n <;> rfl⟩
theorem OpcodeMap.ldEC : OpcodeMap.Statement .ldEC := fun _ => ⟨rfl, fun n => by cases n <;> rfl⟩
theorem OpcodeMap.ldED : OpcodeMap.Statement .ldED := fun _ => ⟨rfl, fun n => by cases n <;> rfl⟩
theorem OpcodeMap.ldEE : OpcodeMap.Statement .ldEE := fun _ => ⟨rfl, fun n => by cases n <;> rfl⟩
theorem OpcodeMap.ldEH : OpcodeMap.Statement .ldEH := fun _ => ⟨rfl, fun n => by cases n <;> rfl⟩
theorem OpcodeMap.ldEL : OpcodeMap.Statement .ldEL := fun _ => ⟨rfl, fun n => by cases n <;> rfl⟩
theorem OpcodeMap.ldEIndHl : OpcodeMap.Statement .ldEIndHl := fun _ => ⟨rfl, fun n => by cases n <;> rfl⟩
theorem OpcodeMap.ldEA : OpcodeMap.Statement .ldEA := fun _ => ⟨rfl, fun n => by cases n <;> rfl⟩
theorem OpcodeMap.ldHB : OpcodeMap.Statement .ldHB := fun _ => ⟨rfl, fun n => by cases n <;> rfl⟩
theorem OpcodeMap.ldHC : OpcodeMap.Statement .ldHC := fun _ => ⟨rfl, fun n => by cases n <;> rfl⟩
theorem OpcodeMap.ldHD : OpcodeMap.Statement .ldHD := fun _ => ⟨rfl, fun n => by cases n <;> rfl⟩
theorem OpcodeMap.ldHE : OpcodeMap.Statement .ldHE := fun _ => ⟨rfl, fun n => by cases n <;> rfl⟩
theorem OpcodeMap.ldHH : OpcodeMap.Statement .ldHH := fun _ => ⟨rfl, fun n => by cases n <;> rfl⟩
theorem OpcodeMap.ldHL : OpcodeMap.Statement .ldHL := fun _ => ⟨rfl, fun n => by cases n <;> rfl⟩
theorem OpcodeMap.ldHIndHl : OpcodeMap.Statement .ldHIndHl := fun _ => ⟨rfl, fun n => by cases n <;> rfl⟩
theorem OpcodeMap.ldHA : OpcodeMap.Statement .ldHA := fun _ => ⟨rfl, fun n => by cases n <;> rfl⟩
theorem OpcodeMap.ldLB : OpcodeMap.Statement .ldLB := fun _ => ⟨rfl, fun n => by cases n <;> rfl⟩
theorem OpcodeMap.ldLC : OpcodeMap.Statement .ldLC := fun _ => ⟨rfl, fun n => by cases n <;> rfl⟩
theorem OpcodeMap.ldLD : OpcodeMap.Statement .ldLD := fun _ => ⟨rfl, fun n => by cases n <;> rfl⟩
theorem OpcodeMap.ldLE : OpcodeMap.Statement .ldLE := fun _ => ⟨rfl, fun n => by cases n <;> rfl⟩
theorem OpcodeMap.ldLH : OpcodeMap.Statement .ldLH := fun _ => ⟨rfl, fun n => by cases n <;> rfl⟩
theorem OpcodeMap.ldLL : OpcodeMap.Statement .ldLL := fun _ => ⟨rfl, fun n => by cases n <;> rfl⟩
theorem OpcodeMap.ldLIndHl : OpcodeMap.Statement .ldLIndHl := fun _ => ⟨rfl, fun n => by cases n <;> rfl⟩
theorem OpcodeMap.ldLA : OpcodeMap.Statement .ldLA := fun _ => ⟨rfl, fun n => by cases n <;> rfl⟩
theorem OpcodeMap.ldIndHlB : OpcodeMap.Statement .ldIndHlB := fun _ => ⟨rfl, fun n => by cases n <;> rfl⟩
theorem OpcodeMap.ldIndHlC : OpcodeMap.Statement .ldIndHlC := fun _ => ⟨rfl, fun n => by cases n <;> rfl⟩
theorem OpcodeMap.ldIndHlD : OpcodeMap.Statement .ldIndHlD := fun _ => ⟨rfl, fun n => by cases n <;> rfl⟩
theorem OpcodeMap.ldIndHlE : OpcodeMap.Statement .ldIndHlE := fun _ => ⟨rfl, fun n => by cases n <;> rfl⟩
theorem OpcodeMap.ldIndHlH : OpcodeMap.Statement .ldIndHlH := fun _ => ⟨rfl, fun n => by cases n <;> rfl⟩
theorem OpcodeMap.ldIndHlL : OpcodeMap.Statement .ldIndHlL := fun _ => ⟨rfl, fun n => by cases n <;> rfl⟩
theorem OpcodeMap.unbound76 : OpcodeMap.Statement .unbound76 := fun _ => ⟨rfl, fun n => by cases n <;> rfl⟩
theorem OpcodeMap.ldIndHlA : OpcodeMap.Statement .ldIndHlA := fun _ => ⟨rfl, fun n => by cases n <;> rfl⟩
theorem OpcodeMap.ldAB : OpcodeMap.Statement .ldAB := fun _ => ⟨rfl, fun n => by cases n <;> rfl⟩
theorem OpcodeMap.ldAC : OpcodeMap.Statement .ldAC := fun _ => ⟨rfl, fun n => by cases n <;> rfl⟩
theorem OpcodeMap.ldAD : OpcodeMap.Statement .ldAD := fun _ => ⟨rfl, fun n => by cases n <;> rfl⟩
theorem OpcodeMap.ldAE : OpcodeMap.Statement .ldAE := fun _ => ⟨rfl, fun n => by cases n <;> rfl⟩
theorem OpcodeMap.ldAH : OpcodeMap.Statement .ldAH := fun _ => ⟨rfl, fun n => by cases n <;> rfl⟩
theorem OpcodeMap.ldAL : OpcodeMap.Statement .ldAL := fun _ => ⟨rfl, fun n => by cases n <;> rfl⟩
theorem OpcodeMap.ldAIndHl : OpcodeMap.Statement .ldAIndHl := fun _ => ⟨rfl, fun n => by cases n <;> rfl⟩
theorem OpcodeMap.ldAA : OpcodeMap.Statement .ldAA := fun _ => ⟨rfl, fun n => by cases n <;> rfl⟩
theorem OpcodeMap.addAB : OpcodeMap.Statement .addAB := fun _ => ⟨rfl, fun n => by cases n <;> rfl⟩
theorem OpcodeMap.addAC : OpcodeMap.Statement .addAC := fun _ => ⟨rfl, fun n => by cases n <;> rfl⟩
theorem OpcodeMap.addAD : OpcodeMap.Statement .addAD := fun _ => ⟨rfl, fun n => by cases n <;> rfl⟩
theorem OpcodeMap.addAE : OpcodeMap.Statement .addAE := fun _ => ⟨rfl, fun n => by cases n <;> rfl⟩
theorem OpcodeMap.addAH : OpcodeMap.Statement .addAH := fun _ => ⟨rfl, fun n => by cases n <;> rfl⟩
theorem OpcodeMap.addAL : OpcodeMap.Statement .addAL := fun _ => ⟨rfl, fun n => by cases n <;> rfl⟩
theorem OpcodeMap.addAIndHl : OpcodeMap.Statement .addAIndHl := fun _ => ⟨rfl, fun n => by cases n <;> rfl⟩
theorem OpcodeMap.addAA : OpcodeMap.Statement .addAA := fun _ => ⟨rfl, fun n => by cases n <;> rfl⟩
theorem OpcodeMap.adcAB : OpcodeMap.Statement .adcAB := fun _ => ⟨rfl, fun n => by cases n <;> rfl⟩
theorem OpcodeMap.adcAC : OpcodeMap.Statement .adcAC := fun _ => ⟨rfl, fun n => by cases n <;> rfl⟩
theorem OpcodeMap.adcAD : OpcodeMap.Statement .adcAD := fun _ => ⟨rfl, fun n => by cases n <;> rfl⟩
theorem OpcodeMap.adcAE : OpcodeMap.Statement .adcAE := fun _ => ⟨rfl, fun n => by cases n <;> rfl⟩
theorem OpcodeMap.adcAH : OpcodeMap.Statement .adcAH := fun _ => ⟨rfl, fun n => by cases n <;> rfl⟩
theorem OpcodeMap.adcAL : OpcodeMap.Statement .adcAL := fun _ => ⟨rfl, fun n => by cases n <;> rfl⟩
theorem OpcodeMap.adcAIndHl : OpcodeMap.Statement .adcAIndHl := fun _ => ⟨rfl, fun n => by cases n <;> rfl⟩
theorem OpcodeMap.adcAA : OpcodeMap.Statement .adcAA := fun _ => ⟨rfl, fun n => by cases n <;> rfl⟩
theorem OpcodeMap.unbound90 : OpcodeMap.Statement .unbound90 := fun _ => ⟨rfl, fun n => by cases n <;> rfl⟩
theorem OpcodeMap.unbound91 : OpcodeMap.Statement .unbound91 := fun _ => ⟨rfl, fun n => by cases n <;> rfl⟩
theorem OpcodeMap.unbound92 : OpcodeMap.Statement .unbound92 := fun _ => ⟨rfl, fun n => by cases n <;> rfl⟩
theorem OpcodeMap.unbound93 : OpcodeMap.Statement .unbound93 := fun _ => ⟨rfl, fun n => by cases n <;> rfl⟩
theorem OpcodeMap.unbound94 : OpcodeMap.Statement .unbound94 := fun _ => ⟨rfl, fun n => by cases n <;> rfl⟩
theorem OpcodeMap.unbound95 : OpcodeMap.Statement .unbound95 := fun _ => ⟨rfl, fun n => by cases n <;> rfl⟩
theorem OpcodeMap.unbound96 : OpcodeMap.Statement .unbound96 := fun _ => ⟨rfl, fun n => by cases n <;> rfl⟩
theorem OpcodeMap.unbound97 : OpcodeMap.Statement .unbound97 := fun _ => ⟨rfl, fun n => by cases n <;> rfl⟩
theorem OpcodeMap.unbound98 : OpcodeMap.Statement .unbound98 := fun _ => ⟨rfl, fun n => by cases n <;> rfl⟩
theorem OpcodeMap.unbound99 : OpcodeMap.Statement .unbound99 := fun _ => ⟨rfl, fun n => by cases n <;> rfl⟩
theorem OpcodeMap.unbound9A : OpcodeMap.Statement .unbound9A := fun _ => ⟨rfl, fun n => by cases n <;> rfl⟩
theorem OpcodeMap.unbound9B : OpcodeMap.Statement .unbound9B := fun _ => ⟨rfl, fun n => by cases n <;> rfl⟩
theorem OpcodeMap.unbound9C : OpcodeMap.Statement .unbound9C := fun _ => ⟨rfl, fun n => by cases n <;> rfl⟩
theorem OpcodeMap.unbound9D : OpcodeMap.Statement .unbound9D := fun _ => ⟨rfl, fun n => by cases n <;> rfl⟩
theorem OpcodeMap.unbound9E : OpcodeMap.Statement .unbound9E := fun _ => ⟨rfl, fun n => by cases n <;> rfl⟩
theorem OpcodeMap.unbound9F : OpcodeMap.Statement .unbound9F := fun _ => ⟨rfl, fun n => by cases n <;> rfl⟩
theorem OpcodeMap.unboundA0 : OpcodeMap.Statement .unboundA0 := fun _ => ⟨rfl, fun n => by cases n <;> rfl⟩
theorem OpcodeMap.unboundA1 : OpcodeMap.Statement .unboundA1 := fun _ => ⟨rfl, fun n => by cases n <;> rfl⟩
theorem OpcodeMap.unboundA2 : OpcodeMap.Statement .unboundA2 := fun _ => ⟨rfl, fun n => by cases n <;> rfl⟩
theorem OpcodeMap.unboundA3 : OpcodeMap.Statement .unboundA3 := fun _ => ⟨rfl, fun n => by cases n <;> rfl⟩
theorem OpcodeMap.unboundA4 : OpcodeMap.Statement .unboundA4 := fun _ => ⟨rfl, fun n => by cases n <;> rfl⟩
theorem OpcodeMap.unboundA5 : OpcodeMap.Statement .unboundA5 := fun _ => ⟨rfl, fun n => by cases n <;> rfl⟩
theorem OpcodeMap.unboundA6 : OpcodeMap.Statement .unboundA6 := fun _ => ⟨rfl, fun n => by cases n <;> rfl⟩
theorem OpcodeMap.unboundA7 : OpcodeMap.Statement .unboundA7 := fun _ => ⟨rfl, fun n => by cases n <;> rfl⟩
theorem OpcodeMap.unboundA8 : OpcodeMap.Statement .unboundA8 := fun _ => ⟨rfl, fun n => by cases n <;> rfl⟩
theorem OpcodeMap.unboundA9 : OpcodeMap.Statement .unboundA9 := fun _ => ⟨rfl, fun n => by cases n <;> rfl⟩
theorem OpcodeMap.unboundAA : OpcodeMap.Statement .unboundAA := fun _ => ⟨rfl, fun n => by cases n <;> rfl⟩
theorem OpcodeMap.unboundAB : OpcodeMap.Statement .unboundAB := fun _ => ⟨rfl, fun n => by cases n <;> rfl⟩
theorem OpcodeMap.unboundAC : OpcodeMap.Statement .unboundAC := fun _ => ⟨rfl, fun n => by cases n <;> rfl⟩
theorem OpcodeMap.unboundAD : OpcodeMap.Statement .unboundAD := fun _ => ⟨rfl, fun n => by cases n <;> rfl⟩
theorem OpcodeMap.unboundAE : OpcodeMap.Statement .unboundAE := fun _ => ⟨rfl, fun n => by cases n <;> rfl⟩
theorem OpcodeMap.unboundAF : OpcodeMap.Statement .unboundAF := fun _ => ⟨rfl, fun n => by cases n <;> rfl⟩
theorem OpcodeMap.unboundB0 : OpcodeMap.Statement .unboundB0 := fun _ => ⟨rfl, fun n => by cases n <;> rfl⟩
theorem OpcodeMap.unboundB1 : OpcodeMap.Statement .unboundB1 := fun _ => ⟨rfl, fun n => by cases n <;> rfl⟩
theorem OpcodeMap.unboundB2 : OpcodeMap.Statement .unboundB2 := fun _ => ⟨rfl, fun n => by cases n <;> rfl⟩
theorem OpcodeMap.unboundB3 : OpcodeMap.Statement .unboundB3 := fun _ => ⟨rfl, fun n => by cases n <;> rfl⟩
theorem OpcodeMap.unboundB4 : OpcodeMap.Statement .unboundB4 := fun _ => ⟨rfl, fun n => by cases n <;> rfl⟩
theorem OpcodeMap.unboundB5 : OpcodeMap.Statement .unboundB5 := fun _ => ⟨rfl, fun n => by cases n <;> rfl⟩
theorem OpcodeMap.unboundB6 : OpcodeMap.Statement .unboundB6 := fun _ => ⟨rfl, fun n => by cases n <;> rfl⟩
theorem OpcodeMap.unboundB7 : OpcodeMap.Statement .unboundB7 := fun _ => ⟨rfl, fun n => by cases n <;> rfl⟩
theorem OpcodeMap.unboundB8 : OpcodeMap.Statement .unboundB8 := fun _ => ⟨rfl, fun n => by cases n <;> rfl⟩
theorem OpcodeMap.unboundB9 : OpcodeMap.Statement .unboundB9 := fun _ => ⟨rfl, fun n => by cases n <;> rfl⟩
theorem OpcodeMap.unboundBA : OpcodeMap.Statement .unboundBA := fun _ => ⟨rfl, fun n => by cases n <;> rfl⟩
theorem OpcodeMap.unboundBB : OpcodeMap.Statement .unboundBB := fun _ => ⟨rfl, fun n => by cases n <;> rfl⟩
theorem OpcodeMap.unboundBC : OpcodeMap.Statement .unboundBC := fun _ => ⟨rfl, fun n => by cases n <;> rfl⟩
theorem OpcodeMap.unboundBD : OpcodeMap.Statement .unboundBD := fun _ => ⟨rfl, fun n => by cases n <;> rfl⟩
theorem OpcodeMap.unboundBE : OpcodeMap.Statement .unboundBE := fun _ => ⟨rfl, fun n => by cases n <;> rfl⟩
theorem OpcodeMap.unboundBF : OpcodeMap.Statement .unboundBF := fun _ => ⟨rfl, fun n => by cases n <;> rfl⟩
theorem OpcodeMap.unboundC0 : OpcodeMap.Statement .unboundC0 := fun _ => ⟨rfl, fun n => by cases n <;> rfl⟩
theorem OpcodeMap.unboundC1 : OpcodeMap.Statement .unboundC1 := fun _ => ⟨rfl, fun n => by cases n <;> rfl⟩
theorem OpcodeMap.unboundC2 : OpcodeMap.Statement .unboundC2 := fun _ => ⟨rfl, fun n => by cases n <;> rfl⟩
theorem OpcodeMap.unboundC3 : OpcodeMap.Statement .unboundC3 := fun _ => ⟨rfl, fun n => by cases n <;> rfl⟩
theorem OpcodeMap.unboundC4 : OpcodeMap.Statement .unboundC4 := fun _ => ⟨rfl, fun n => by cases n <;> rfl⟩
theorem OpcodeMap.unboundC5 : OpcodeMap.Statement .unboundC5 := fun _ => ⟨rfl, fun n => by cases n <;> rfl⟩
theorem OpcodeMap.unboundC6 : OpcodeMap.Statement .unboundC6 := fun _ => ⟨rfl, fun n => by cases n <;> rfl⟩
theorem OpcodeMap.unboundC7 : OpcodeMap.Statement .unboundC7 := fun _ => ⟨rfl, fun n => by cases n <;> rfl⟩
theorem OpcodeMap.unboundC8 : OpcodeMap.Statement .unboundC8 := fun _ => ⟨rfl, fun n => by cases n <;> rfl⟩
theorem OpcodeMap.unboundC9 : OpcodeMap.Statement .unboundC9 := fun _ => ⟨rfl, fun n => by cases n <;> rfl⟩
theorem OpcodeMap.unboundCA : OpcodeMap.Statement .unboundCA := fun _ => ⟨rfl, fun n => by cases n <;> rfl⟩
theorem OpcodeMap.unboundCB : OpcodeMap.Statement .unboundCB := fun _ => ⟨rfl, fun n => by cases n <;> rfl⟩
theorem OpcodeMap.unboundCC : OpcodeMap.Statement .unboundCC := fun _ => ⟨rfl, fun n => by cases n <;> rfl⟩
theorem OpcodeMap.unboundCD : OpcodeMap.Statement .unboundCD := fun _ => ⟨rfl, fun n => by cases n <;> rfl⟩
theorem OpcodeMap.unboundCE : OpcodeMap.Statement .unboundCE := fun _ => ⟨rfl, fun n => by cases n <;> rfl⟩
theorem OpcodeMap.unboundCF : OpcodeMap.Statement .unboundCF := fun _ => ⟨rfl, fun n => by cases n <;> rfl⟩
theorem OpcodeMap.unboundD0 : OpcodeMap.Statement .unboundD0 := fun _ => ⟨rfl, fun n => by cases n <;> rfl⟩
theorem OpcodeMap.unboundD1 : OpcodeMap.Statement .unboundD1 := fun _ => ⟨rfl, fun n => by cases n <;> rfl⟩
theorem OpcodeMap.unboundD2 : OpcodeMap.Statement .unboundD2 := fun _ => ⟨rfl, fun n => by cases n <;> rfl⟩
theorem OpcodeMap.unboundD3 : OpcodeMap.Statement .unboundD3 := fun _ => ⟨rfl, fun n => by cases n <;> rfl⟩
theorem OpcodeMap.unboundD4 : OpcodeMap.Statement .unboundD4 := fun _ => ⟨rfl, fun n => by cases n <;> rfl⟩
theorem OpcodeMap.unboundD5 : OpcodeMap.Statement .unboundD5 := fun _ => ⟨rfl, fun n => by cases n <;> rfl⟩
theorem OpcodeMap.unboundD6 : OpcodeMap.Statement .unboundD6 := fun _ => ⟨rfl, fun n => by cases n <;> rfl⟩
theorem OpcodeMap.unboundD7 : OpcodeMap.Statement .unboundD7 := fun _ => ⟨rfl, fun n => by cases n <;> rfl⟩
theorem OpcodeMap.unboundD8 : OpcodeMap.Statement .unboundD8 := fun _ => ⟨rfl, fun n => by cases n <;> rfl⟩
theorem OpcodeMap.unboundD9 : OpcodeMap.Statement .unboundD9 := fun _ => ⟨rfl, fun n => by cases n <;> rfl⟩
theorem OpcodeMap.unboundDA : OpcodeMap.Statement .unboundDA := fun _ => ⟨rfl, fun n => by cases n <;> rfl⟩
theorem OpcodeMap.unboundDB : OpcodeMap.Statement .unboundDB := fun _ => ⟨rfl, fun n => by cases n <;> rfl⟩
theorem OpcodeMap.unboundDC : OpcodeMap.Statement .unboundDC := fun _ => ⟨rfl, fun n => by cases n <;> rfl⟩
theorem OpcodeMap.unboundDD : OpcodeMap.Statement .unboundDD := fun _ => ⟨rfl, fun n => by cases n <;> rfl⟩
theorem OpcodeMap.unboundDE : OpcodeMap.Statement .unboundDE := fun _ => ⟨rfl, fun n => by cases n <;> rfl⟩
theorem OpcodeMap.unboundDF : OpcodeMap.Statement .unboundDF := fun _ => ⟨rfl, fun n => by cases n <;> rfl⟩
theorem OpcodeMap.ldhA8A (o : Byte) : OpcodeMap.Statement (.ldhA8A o) :=
  OpcodeMap.of_opcode 0xE0#8 rfl (fun _ => rfl) (fun _ => rfl) (fun n => by cases n <;> rfl)
theorem OpcodeMap.unboundE1 : OpcodeMap.Statement .unboundE1 := fun _ => ⟨rfl, fun n => by cases n <;> rfl⟩
theorem OpcodeMap.unboundE2 : OpcodeMap.Statement .unboundE2 := fun _ => ⟨rfl, fun n => by cases n <;> rfl⟩
theorem OpcodeMap.unboundE3 : OpcodeMap.Statement .unboundE3 := fun _ => ⟨rfl, fun n => by cases n <;> rfl⟩
theorem OpcodeMap.unboundE4 : OpcodeMap.Statement .unboundE4 := fun _ => ⟨rfl, fun n => by cases n <;> rfl⟩
theorem OpcodeMap.unboundE5 : OpcodeMap.Statement .unboundE5 := fun _ => ⟨rfl, fun n => by cases n <;> rfl⟩
theorem OpcodeMap.unboundE6 : OpcodeMap.Statement .unboundE6 := fun _ => ⟨rfl, fun n => by cases n <;> rfl⟩
theorem OpcodeMap.unboundE7 : OpcodeMap.Statement .unboundE7 := fun _ => ⟨rfl, fun n => by cases n <;> rfl⟩
theorem OpcodeMap.unboundE8 : OpcodeMap.Statement .unboundE8 := fun _ => ⟨rfl, fun n => by cases n <;> rfl⟩
theorem OpcodeMap.unboundE9 : OpcodeMap.Statement .unboundE9 := fun _ => ⟨rfl, fun n => by cases n <;> rfl⟩
theorem OpcodeMap.unboundEA : OpcodeMap.Statement .unboundEA := fun _ => ⟨rfl, fun n => by cases n <;> rfl⟩
theorem OpcodeMap.unboundEB : OpcodeMap.Statement .unboundEB := fun _ => ⟨rfl, fun n => by cases n <;> rfl⟩
theorem OpcodeMap.unboundEC : OpcodeMap.Statement .unboundEC := fun _ => ⟨rfl, fun n => by cases n <;> rfl⟩
theorem OpcodeMap.unboundED : OpcodeMap.Statement .unboundED := fun _ => ⟨rfl, fun n => by cases n <;> rfl⟩
theorem OpcodeMap.unboundEE : OpcodeMap.Statement .unboundEE := fun _ => ⟨rfl, fun n => by cases n <;> rfl⟩
theorem OpcodeMap.unboundEF : OpcodeMap.Statement .unboundEF := fun _ => ⟨rfl, fun n => by cases n <;> rfl⟩
theorem OpcodeMap.ldhAA8 (o : Byte) : OpcodeMap.Statement (.ldhAA8 o) :=
  OpcodeMap.of_opcode 0xF0#8 rfl (fun _ => rfl) (fun _ => rfl) (fun n => by cases n <;> rfl)
theorem OpcodeMap.unboundF1 : OpcodeMap.Statement .unboundF1 := fun _ => ⟨rfl, fun n => by cases n <;> rfl⟩
theorem OpcodeMap.unboundF2 : OpcodeMap.Statement .unboundF2 := fun _ => ⟨rfl, fun n => by cases n <;> rfl⟩
theorem OpcodeMap.unboundF3 : OpcodeMap.Statement .unboundF3 := fun _ => ⟨rfl, fun n => by cases n <;> rfl⟩
theorem OpcodeMap.unboundF4 : OpcodeMap.Statement .unboundF4 := fun _ => ⟨rfl, fun n => by cases n <;> rfl⟩
theorem OpcodeMap.unboundF5 : OpcodeMap.Statement .unboundF5 := fun _ => ⟨rfl, fun n => by cases n <;> rfl⟩
theorem OpcodeMap.unboundF6 : OpcodeMap.Statement .unboundF6 := fun _ => ⟨rfl, fun n => by cases n <;> rfl⟩
theorem OpcodeMap.unboundF7 : OpcodeMap.Statement .unboundF7 := fun _ => ⟨rfl, fun n => by cases n <;> rfl⟩
theorem OpcodeMap.unboundF8 : OpcodeMap.Statement .unboundF8 := fun _ => ⟨rfl, fun n => by cases n <;> rfl⟩
theorem OpcodeMap.unboundF9 : OpcodeMap.Statement .unboundF9 := fun _ => ⟨rfl, fun n => by cases n <;> rfl⟩
theorem OpcodeMap.unboundFA : OpcodeMap.Statement .unboundFA := fun _ => ⟨rfl, fun n => by cases n <;> rfl⟩
theorem OpcodeMap.unboundFB : OpcodeMap.Statement .unboundFB := fun _ => ⟨rfl, fun n => by cases n <;> rfl⟩
theorem OpcodeMap.unboundFC : OpcodeMap.Statement .unboundFC := fun _ => ⟨rfl, fun n => by cases n <;> rfl⟩
theorem OpcodeMap.unboundFD : OpcodeMap.Statement .unboundFD := fun _ => ⟨rfl, fun n => by cases n <;> rfl⟩
theorem OpcodeMap.unboundFE : OpcodeMap.Statement .unboundFE := fun _ => ⟨rfl, fun n => by cases n <;> rfl⟩
theorem OpcodeMap.unboundFF : OpcodeMap.Statement .unboundFF := fun _ => ⟨rfl, fun n => by cases n <;> rfl⟩

end Sys2Proof.Laws
end

