-- ==== Sys2Proof/Laws/Ppu.lean ====
section
/-! SUPPORT. Ppu.lean: the PPU's loop runs to its end, and how it moves through a frame. -/

namespace Sys2Proof.Machine

theorem PpuMode.budget_pos (m : PpuMode) : 0 < m.budget := by cases m <;> decide

@[simp] theorem Ppu.transition_modeClock (p : Ppu) : p.transition.modeClock = p.modeClock := by
  unfold Ppu.transition; split <;> rfl

@[simp] theorem Ppu.transition_total (p : Ppu) : p.transition.total = p.total := by
  unfold Ppu.transition; split <;> rfl

@[simp] theorem Ppu.settle_total (n : Nat) (p : Ppu) : (Ppu.settle n p).total = p.total := by
  induction n generalizing p with
  | zero => rfl
  | succ n ih => unfold Ppu.settle; split <;> simp [ih]

/-- One round of the loop. -/
def Ppu.round (p : Ppu) : Ppu := Ppu.transition { p with modeClock := p.modeClock - p.mode.budget }

theorem Ppu.settle_below {p : Ppu} (n : Nat) (h : p.modeClock < p.mode.budget) : Ppu.settle n p = p := by
  cases n with
  | zero => rfl
  | succ n => simp [Ppu.settle, Nat.not_le.mpr h]

theorem Ppu.settle_round {p : Ppu} (n : Nat) (h : p.mode.budget ≤ p.modeClock) :
    Ppu.settle (n + 1) p = Ppu.settle n p.round := by simp [Ppu.settle, h, Ppu.round]

theorem Ppu.round_modeClock (p : Ppu) : p.round.modeClock = p.modeClock - p.mode.budget := by simp [Ppu.round]

/-- As many rounds as the clock shows are enough. -/
theorem Ppu.settle_done {n : Nat} {p : Ppu} (h : p.modeClock ≤ n) :
    (Ppu.settle n p).modeClock < (Ppu.settle n p).mode.budget := by
  induction n generalizing p with
  | zero => exact lt_of_le_of_lt h p.mode.budget_pos
  | succ n ih =>
    by_cases hb : p.mode.budget ≤ p.modeClock
    · rw [Ppu.settle_round n hb]
      have := p.mode.budget_pos
      exact ih (by rw [Ppu.round_modeClock]; omega)
    · rwa [Ppu.settle_below (n + 1) (by omega), ← Nat.not_le]

/-- Beyond enough rounds, more change nothing. -/
theorem Ppu.settle_enough {n m : Nat} {p : Ppu} (hn : p.modeClock ≤ n) (hm : p.modeClock ≤ m) :
    Ppu.settle n p = Ppu.settle m p := by
  induction n generalizing p m with
  | zero =>
    have : p.modeClock < p.mode.budget := lt_of_le_of_lt hn p.mode.budget_pos
    rw [Ppu.settle_below _ this, Ppu.settle_below _ this]
  | succ n ih =>
    by_cases hb : p.mode.budget ≤ p.modeClock
    · have := p.mode.budget_pos
      obtain ⟨m, rfl⟩ : ∃ k, m = k + 1 := ⟨m - 1, by omega⟩
      rw [Ppu.settle_round n hb, Ppu.settle_round m hb]
      exact ih (by rw [Ppu.round_modeClock]; omega) (by rw [Ppu.round_modeClock]; omega)
    · rw [Ppu.settle_below _ (by omega), Ppu.settle_below _ (by omega)]

end Sys2Proof.Machine
end

