-- ==== Sys2Proof/Laws/Step.lean ====
section
/-! SUPPORT. Step.lean: what fetching an instruction and one system step can do, once each. -/

namespace Sys2Proof.Machine

/-! ### Fetching -/

theorem fetch8_byte {s : State} {v : Byte} (h : busRead s s.pc = .byte v) (k : Byte → State → Out) :
    fetch8 s k = k v { s with pc := s.pc + 1#16 } := memRead_byte h _

theorem fetch8_draw {s : State} (h : busRead s s.pc = .draw) (k : Byte → State → Out) :
    fetch8 s k = k (Config.drawByte s.draws) { s with pc := s.pc + 1#16, draws := s.draws + 1 } := memRead_draw h _

theorem fetch8_beyondRom {s : State} (h : busRead s s.pc = .beyondRom) (k : Byte → State → Out) :
    fetch8 s k = faultStop (.cartRange s.pc) s := memRead_beyondRom h _

/-- Everything a fetch can do: hand on the byte it fetches, or stop at a read beyond the ROM with nothing changed. -/
theorem fetch8_cases (s : State) :
    (∃ v u, Fetches s [v] u ∧ ∀ k, fetch8 s k = k v u) ∨
    (busRead s s.pc = .beyondRom ∧ ∀ k, fetch8 s k = faultStop (.cartRange s.pc) s) := by
  cases h : busRead s s.pc with
  | byte v => exact .inl ⟨v, _, .inl ⟨h, rfl⟩, fetch8_byte h⟩
  | draw => exact .inl ⟨_, _, .inr ⟨h, rfl, rfl⟩, fetch8_draw h⟩
  | beyondRom => exact .inr ⟨rfl, fetch8_beyondRom h⟩

/-- Fetching a byte and then more. -/
theorem Fetches.cons {s t u : State} {v : Byte} {vs : List Byte} (h : Fetches s [v] t) (hs : Fetches t vs u) :
    Fetches s (v :: vs) u := by
  rcases h with ⟨hb, rfl⟩ | ⟨hb, hv, rfl⟩
  · exact .inl ⟨hb, hs⟩
  · exact .inr ⟨hb, hv, hs⟩

/-- Fetching the bytes of a list is fetching the first of them and then the others. -/
theorem Fetches.uncons {s u : State} {v : Byte} {vs : List Byte} (h : Fetches s (v :: vs) u) :
    ∃ t, Fetches s [v] t ∧ Fetches t vs u := by
  rcases h with ⟨hb, h⟩ | ⟨hb, hv, h⟩
  · exact ⟨_, .inl ⟨hb, rfl⟩, h⟩
  · exact ⟨_, .inr ⟨hb, hv, rfl⟩, h⟩

/-- A byte that was fetched is the byte a fetch hands on. -/
theorem Fetches.fetch8_eq {s u : State} {v : Byte} (h : Fetches s [v] u) (k : Byte → State → Out) :
    fetch8 s k = k v u := by
  rcases h with ⟨hb, rfl⟩ | ⟨hb, rfl, rfl⟩
  · exact fetch8_byte hb k
  · exact fetch8_draw hb k

/-- The draws from an address on are those of every state that reads alike. -/
theorem drawsFrom_congr {s t : State} (h : ∀ w, busRead t w = busRead s w) (w : Word) (n : Nat) :
    drawsFrom t w n = drawsFrom s w n := by
  induction n generalizing w with
  | zero => rfl
  | succ n ih => simp only [drawsFrom, h, ih]

/-- What fetching leaves: PC past the bytes, the counter of draws moved by the drawn ones, and nothing else. -/
theorem Fetches.state_eq {s u : State} {vs : List Byte} (h : Fetches s vs u) :
    u = { s with pc := s.pc + BitVec.ofNat 16 vs.length, draws := s.draws + drawsFrom s s.pc vs.length } := by
  induction vs generalizing s with
  | nil => cases h; simp [drawsFrom]
  | cons v vs ih =>
    have e : s.pc + 1#16 + BitVec.ofNat 16 vs.length = s.pc + BitVec.ofNat 16 (vs.length + 1) := by
      rw [BitVec.add_assoc, Nat.add_comm vs.length 1, BitVec.ofNat_add]
    rcases h with ⟨hb, h⟩ | ⟨hb, -, h⟩
    · rw [ih h]
      simp only [List.length_cons, drawsFrom, hb, e, reduceCtorEq, if_false, Nat.zero_add]
      rw [drawsFrom_congr (s := s) (t := { s with pc := s.pc + 1#16 }) (fun _ => rfl)]
    · rw [ih h]
      simp only [List.length_cons, drawsFrom, hb, e, if_true, Nat.add_assoc]
      rw [drawsFrom_congr (s := s) (t := { s with pc := s.pc + 1#16, draws := s.draws + 1 }) (fun _ => rfl)]

/-- After fetching, every address reads as before. -/
theorem Fetches.busRead_eq {s u : State} {vs : List Byte} (h : Fetches s vs u) (w : Word) : busRead u w = busRead s w := by
  rw [h.state_eq]; rfl

/-- After fetching, what the launch fixed is as before. -/
theorem Fetches.launch_eq {s u : State} {vs : List Byte} (h : Fetches s vs u) : u.launch = s.launch := by
  rw [h.state_eq]

/-- Everything fetching operand bytes can do: hand on as many fetched bytes as asked for, or stop at the first that is
beyond the ROM, after those before it. -/
theorem fetchBytes_cases (n : Nat) (s : State) :
    (∃ vs u, Fetches s vs u ∧ vs.length = n ∧ ∀ k, fetchBytes n s k = k vs u) ∨
    (∃ vs u, Fetches s vs u ∧ vs.length < n ∧ busRead s u.pc = .beyondRom ∧
      ∀ k, fetchBytes n s k = faultStop (.cartRange u.pc) u) := by
  induction n generalizing s with
  | zero => exact .inl ⟨[], s, rfl, rfl, fun _ => rfl⟩
  | succ n ih =>
    rcases fetch8_cases s with ⟨v, t, hv, h⟩ | ⟨hb, h⟩
    · rcases ih t with ⟨vs, u, hf, hl, h'⟩ | ⟨vs, u, hf, hl, hb, h'⟩
      · exact .inl ⟨v :: vs, u, hv.cons hf, by simp [hl], fun k => by rw [fetchBytes, h, h']⟩
      · exact .inr ⟨v :: vs, u, hv.cons hf, by simpa using hl, by rw [← hv.busRead_eq]; exact hb,
          fun k => by rw [fetchBytes, h, h']⟩
    · exact .inr ⟨[], s, rfl, Nat.succ_pos n, hb, fun k => by rw [fetchBytes, h]⟩

/-- Everything fetching an instruction can do: hand on the whole instruction with the state after its bytes, or stop
where the next byte of an instruction not yet whole is beyond the ROM. -/
theorem fetchInstr_cases (s : State) :
    (∃ op operands u, Fetches s (op :: operands) u ∧ operands.length = operandCount s.launch.stopLength op ∧
      ∀ k, fetchInstr s k = k (decodeOperands op operands) u) ∨
    (∃ got u, Fetches s got u ∧ PartOfInstruction s.launch.stopLength got ∧ busRead s u.pc = .beyondRom ∧
      ∀ k, fetchInstr s k = faultStop (.cartRange u.pc) u) := by
  rcases fetch8_cases s with ⟨op, t, hop, h⟩ | ⟨hb, h⟩
  · rcases fetchBytes_cases (operandCount t.launch.stopLength op) t with ⟨vs, u, hf, hl, h'⟩ | ⟨vs, u, hf, hl, hb, h'⟩
    · exact .inl ⟨op, vs, u, hop.cons hf, by rw [hl, hop.launch_eq], fun k => by rw [fetchInstr, h, h']⟩
    · exact .inr ⟨op :: vs, u, hop.cons hf, by rw [hop.launch_eq] at hl; exact hl, by rw [← hop.busRead_eq]; exact hb,
        fun k => by rw [fetchInstr, h, h']⟩
  · exact .inr ⟨[], s, rfl, trivial, hb, fun k => by rw [fetchInstr, h]⟩

/-! ### One step -/

theorem step_running {s : State} (h : s.haltedBy = .none) : step s = runStep s := by
  unfold step systemStep; rw [h]

/-- Only a running machine completes a step. -/
theorem running_of_step_next {s t : State} (h : step s = .next t) : s.haltedBy = .none := by
  unfold step systemStep at h
  split at h
  · assumption
  · exact absurd h (by simp)
  · exact absurd h (by simp)

/-- Everything a step of a running machine can do: run the instruction it fetches, or stop at a byte of it beyond the
ROM. -/
theorem step_cases {s : State} (hr : s.haltedBy = .none) :
    (∃ op operands u, Fetches s (op :: operands) u ∧ operands.length = operandCount s.launch.stopLength op ∧
      step s = finishStep (stepCost (decodeOperands op operands) u) (exec (decodeOperands op operands) u)) ∨
    (∃ got u, Fetches s got u ∧ PartOfInstruction s.launch.stopLength got ∧ busRead s u.pc = .beyondRom ∧
      step s = faultStop (.cartRange u.pc) u) := by
  rw [step_running hr]
  rcases fetchInstr_cases s with ⟨op, vs, u, hf, hl, h⟩ | ⟨got, u, hf, hp, hb, h⟩
  · exact .inl ⟨op, vs, u, hf, hl, h _⟩
  · exact .inr ⟨got, u, hf, hp, hb, h _⟩

/-- Everything a step that completes can do: fetch an instruction, run it, and advance the PPU by the step's cost. -/
theorem step_next {s t : State} (h : step s = .next t) :
    s.haltedBy = .none ∧ ∃ op operands u v,
      Fetches s (op :: operands) u ∧ operands.length = operandCount s.launch.stopLength op ∧
      exec (decodeOperands op operands) u = .next v ∧ t = advancePpu (stepCost (decodeOperands op operands) u) v := by
  have hr := running_of_step_next h
  refine ⟨hr, ?_⟩
  rcases step_cases hr with ⟨op, vs, u, hf, hl, h'⟩ | ⟨got, u, -, -, -, h'⟩ <;> rw [h'] at h
  · cases he : exec (decodeOperands op vs) u with
    | next v =>
      rw [he] at h
      exact ⟨op, vs, u, v, hf, hl, he, (Host.Outcome.next.inj h).symm⟩
    | fault f => rw [he] at h; exact absurd h (by simp [finishStep])
    | refused r => rw [he] at h; exact absurd h (by simp [finishStep])
  · exact absurd h (by simp [faultStop])

end Sys2Proof.Machine
end

