-- ==== Sys2Proof/Tests/Slice0.lean ====
section
/-! SUPPORT. Slice0.lean: tests on fixed values, and a witness of the hypotheses of every obligation that has some. The
expected results are the spec's: the bit patterns of 30_encoding.md R113, and the vectors of 95_test_vectors.md, whose
names (V1, M1, T1, X1) the theorems carry. -/

namespace Sys2Proof.Tests

open Sys2Proof Sys2Proof.Machine Sys2Proof.Claims

/-! ### Well-formedness refuses an offset that no operand byte stands for -/

theorem test_wellFormed_jrR8 : [Instr.jrR8 128, .jrR8 (-129), .jrR8 127, .jrR8 (-128)].map Instr.wf = [false, false, true, true] := by
  decide

theorem test_wellFormed_jrNzR8 : [Instr.jrNzR8 128, .jrNzR8 (-129), .jrNzR8 127, .jrNzR8 (-128)].map Instr.wf = [false, false, true, true] := by
  decide

theorem test_wellFormed_jrZR8 : [Instr.jrZR8 128, .jrZR8 (-129), .jrZR8 127, .jrZR8 (-128)].map Instr.wf = [false, false, true, true] := by
  decide

theorem test_wellFormed_jrNcR8 : [Instr.jrNcR8 128, .jrNcR8 (-129), .jrNcR8 127, .jrNcR8 (-128)].map Instr.wf = [false, false, true, true] := by
  decide

theorem test_wellFormed_jrCR8 : [Instr.jrCR8 128, .jrCR8 (-129), .jrCR8 127, .jrCR8 (-128)].map Instr.wf = [false, false, true, true] := by
  decide

/-! ### Decoding: every row of the opcode map, its words written from the bit patterns of 30_encoding.md R113 -/

/-- The instruction that exactly these bytes decode to. -/
def decoded (bytes : List Byte) : Option Instr :=
  match decode .one bytes with
  | .ok (i, []) => some i
  | .ok (_, _ :: _) => none
  | .error _ => none

theorem test_decode_row0 :
    [[0b00000000#8], [0b00000001#8, 0x22#8, 0xA0#8], [0b00000010#8], [0b00000011#8],
      [0b00000100#8], [0b00000101#8], [0b00000110#8, 0xB6#8], [0b00000111#8],
      [0b00001000#8, 0x29#8, 0xA0#8], [0b00001001#8], [0b00001010#8], [0b00001011#8],
      [0b00001100#8], [0b00001101#8], [0b00001110#8, 0xBE#8], [0b00001111#8]].map decoded =
    [some .nop, some (.ldBcD16 0xA022#16), some .ldIndBcA, some .incBc,
      some .incB, some .decB, some (.ldBD8 0xB6#8), some .rlca,
      some (.ldA16Sp 0xA029#16), some .addHlBc, some .ldAIndBc, some .decBc,
      some .incC, some .decC, some (.ldCD8 0xBE#8), some .rrca] := rfl

theorem test_decode_row1 :
    [[0b00010000#8], [0b00010001#8, 0x22#8, 0xA1#8], [0b00010010#8], [0b00010011#8],
      [0b00010100#8], [0b00010101#8], [0b00010110#8, 0xB6#8], [0b00010111#8],
      [0b00011000#8, 0xFE#8], [0b00011001#8], [0b00011010#8], [0b00011011#8],
      [0b00011100#8], [0b00011101#8], [0b00011110#8, 0xBE#8], [0b00011111#8]].map decoded =
    [some .stop, some (.ldDeD16 0xA122#16), some .ldIndDeA, some .incDe,
      some .incD, some .decD, some (.ldDD8 0xB6#8), some .rla,
      some (.jrR8 (-2)), some .addHlDe, some .ldAIndDe, some .decDe,
      some .incE, some .decE, some (.ldED8 0xBE#8), some .rra] := rfl

theorem test_decode_row2 :
    [[0b00100000#8, 0x80#8], [0b00100001#8, 0x22#8, 0xA2#8], [0b00100010#8], [0b00100011#8],
      [0b00100100#8], [0b00100101#8], [0b00100110#8, 0xB6#8], [0b00100111#8],
      [0b00101000#8, 0x7F#8], [0b00101001#8], [0b00101010#8], [0b00101011#8],
      [0b00101100#8], [0b00101101#8], [0b00101110#8, 0xBE#8], [0b00101111#8]].map decoded =
    [some (.jrNzR8 (-128)), some (.ldHlD16 0xA222#16), some .ldHliA, some .incHl,
      some .incH, some .decH, some (.ldHD8 0xB6#8), some .daa,
      some (.jrZR8 127), some .addHlHl, some .ldAHli, some .decHl,
      some .incL, some .decL, some (.ldLD8 0xBE#8), some .cpl] := rfl

theorem test_decode_row3 :
    [[0b00110000#8, 0xFF#8], [0b00110001#8, 0x22#8, 0xA3#8], [0b00110010#8], [0b00110011#8],
      [0b00110100#8], [0b00110101#8], [0b00110110#8, 0xB6#8], [0b00110111#8],
      [0b00111000#8, 0x05#8], [0b00111001#8], [0b00111010#8], [0b00111011#8],
      [0b00111100#8], [0b00111101#8], [0b00111110#8, 0xBE#8], [0b00111111#8]].map decoded =
    [some (.jrNcR8 (-1)), some (.ldSpD16 0xA322#16), some .ldHldA, some .incSp,
      some .incIndHl, some .decIndHl, some (.ldIndHlD8 0xB6#8), some .scf,
      some (.jrCR8 5), some .addHlSp, some .ldAHld, some .decSp,
      some .incA, some .decA, some (.ldAD8 0xBE#8), some .ccf] := rfl

theorem test_decode_row4 :
    [[0b01000000#8], [0b01000001#8], [0b01000010#8], [0b01000011#8],
      [0b01000100#8], [0b01000101#8], [0b01000110#8], [0b01000111#8],
      [0b01001000#8], [0b01001001#8], [0b01001010#8], [0b01001011#8],
      [0b01001100#8], [0b01001101#8], [0b01001110#8], [0b01001111#8]].map decoded =
    [some .ldBB, some .ldBC, some .ldBD, some .ldBE,
      some .ldBH, some .ldBL, some .ldBIndHl, some .ldBA,
      some .ldCB, some .ldCC, some .ldCD, some .ldCE,
      some .ldCH, some .ldCL, some .ldCIndHl, some .ldCA] := rfl

theorem test_decode_row5 :
    [[0b01010000#8], [0b01010001#8], [0b01010010#8], [0b01010011#8],
      [0b01010100#8], [0b01010101#8], [0b01010110#8], [0b01010111#8],
      [0b01011000#8], [0b01011001#8], [0b01011010#8], [0b01011011#8],
      [0b01011100#8], [0b01011101#8], [0b01011110#8], [0b01011111#8]].map decoded =
    [some .ldDB, some .ldDC, some .ldDD, some .ldDE,
      some .ldDH, some .ldDL, some .ldDIndHl, some .ldDA,
      some .ldEB, some .ldEC, some .ldED, some .ldEE,
      some .ldEH, some .ldEL, some .ldEIndHl, some .ldEA] := rfl

theorem test_decode_row6 :
    [[0b01100000#8], [0b01100001#8], [0b01100010#8], [0b01100011#8],
      [0b01100100#8], [0b01100101#8], [0b01100110#8], [0b01100111#8],
      [0b01101000#8], [0b01101001#8], [0b01101010#8], [0b01101011#8],
      [0b01101100#8], [0b01101101#8], [0b01101110#8], [0b01101111#8]].map decoded =
    [some .ldHB, some .ldHC, some .ldHD, some .ldHE,
      some .ldHH, some .ldHL, some .ldHIndHl, some .ldHA,
      some .ldLB, some .ldLC, some .ldLD, some .ldLE,
      some .ldLH, some .ldLL, some .ldLIndHl, some .ldLA] := rfl

theorem test_decode_row7 :
    [[0b01110000#8], [0b01110001#8], [0b01110010#8], [0b01110011#8],
      [0b01110100#8], [0b01110101#8], [0b01110110#8], [0b01110111#8],
      [0b01111000#8], [0b01111001#8], [0b01111010#8], [0b01111011#8],
      [0b01111100#8], [0b01111101#8], [0b01111110#8], [0b01111111#8]].map decoded =
    [some .ldIndHlB, some .ldIndHlC, some .ldIndHlD, some .ldIndHlE,
      some .ldIndHlH, some .ldIndHlL, some .unbound76, some .ldIndHlA,
      some .ldAB, some .ldAC, some .ldAD, some .ldAE,
      some .ldAH, some .ldAL, some .ldAIndHl, some .ldAA] := rfl

theorem test_decode_row8 :
    [[0b10000000#8], [0b10000001#8], [0b10000010#8], [0b10000011#8],
      [0b10000100#8], [0b10000101#8], [0b10000110#8], [0b10000111#8],
      [0b10001000#8], [0b10001001#8], [0b10001010#8], [0b10001011#8],
      [0b10001100#8], [0b10001101#8], [0b10001110#8], [0b10001111#8]].map decoded =
    [some .addAB, some .addAC, some .addAD, some .addAE,
      some .addAH, some .addAL, some .addAIndHl, some .addAA,
      some .adcAB, some .adcAC, some .adcAD, some .adcAE,
      some .adcAH, some .adcAL, some .adcAIndHl, some .adcAA] := rfl

theorem test_decode_row9 :
    [[0b10010000#8], [0b10010001#8], [0b10010010#8], [0b10010011#8],
      [0b10010100#8], [0b10010101#8], [0b10010110#8], [0b10010111#8],
      [0b10011000#8], [0b10011001#8], [0b10011010#8], [0b10011011#8],
      [0b10011100#8], [0b10011101#8], [0b10011110#8], [0b10011111#8]].map decoded =
    [some .unbound90, some .unbound91, some .unbound92, some .unbound93,
      some .unbound94, some .unbound95, some .unbound96, some .unbound97,
      some .unbound98, some .unbound99, some .unbound9A, some .unbound9B,
      some .unbound9C, some .unbound9D, some .unbound9E, some .unbound9F] := rfl

theorem test_decode_rowA :
    [[0b10100000#8], [0b10100001#8], [0b10100010#8], [0b10100011#8],
      [0b10100100#8], [0b10100101#8], [0b10100110#8], [0b10100111#8],
      [0b10101000#8], [0b10101001#8], [0b10101010#8], [0b10101011#8],
      [0b10101100#8], [0b10101101#8], [0b10101110#8], [0b10101111#8]].map decoded =
    [some .unboundA0, some .unboundA1, some .unboundA2, some .unboundA3,
      some .unboundA4, some .unboundA5, some .unboundA6, some .unboundA7,
      some .unboundA8, some .unboundA9, some .unboundAA, some .unboundAB,
      some .unboundAC, some .unboundAD, some .unboundAE, some .unboundAF] := rfl

theorem test_decode_rowB :
    [[0b10110000#8], [0b10110001#8], [0b10110010#8], [0b10110011#8],
      [0b10110100#8], [0b10110101#8], [0b10110110#8], [0b10110111#8],
      [0b10111000#8], [0b10111001#8], [0b10111010#8], [0b10111011#8],
      [0b10111100#8], [0b10111101#8], [0b10111110#8], [0b10111111#8]].map decoded =
    [some .unboundB0, some .unboundB1, some .unboundB2, some .unboundB3,
      some .unboundB4, some .unboundB5, some .unboundB6, some .unboundB7,
      some .unboundB8, some .unboundB9, some .unboundBA, some .unboundBB,
      some .unboundBC, some .unboundBD, some .unboundBE, some .unboundBF] := rfl

theorem test_decode_rowC :
    [[0b11000000#8], [0b11000001#8], [0b11000010#8], [0b11000011#8],
      [0b11000100#8], [0b11000101#8], [0b11000110#8], [0b11000111#8],
      [0b11001000#8], [0b11001001#8], [0b11001010#8], [0b11001011#8],
      [0b11001100#8], [0b11001101#8], [0b11001110#8], [0b11001111#8]].map decoded =
    [some .unboundC0, some .unboundC1, some .unboundC2, some .unboundC3,
      some .unboundC4, some .unboundC5, some .unboundC6, some .unboundC7,
      some .unboundC8, some .unboundC9, some .unboundCA, some .unboundCB,
      some .unboundCC, some .unboundCD, some .unboundCE, some .unboundCF] := rfl

theorem test_decode_rowD :
    [[0b11010000#8], [0b11010001#8], [0b11010010#8], [0b11010011#8],
      [0b11010100#8], [0b11010101#8], [0b11010110#8], [0b11010111#8],
      [0b11011000#8], [0b11011001#8], [0b11011010#8], [0b11011011#8],
      [0b11011100#8], [0b11011101#8], [0b11011110#8], [0b11011111#8]].map decoded =
    [some .unboundD0, some .unboundD1, some .unboundD2, some .unboundD3,
      some .unboundD4, some .unboundD5, some .unboundD6, some .unboundD7,
      some .unboundD8, some .unboundD9, some .unboundDA, some .unboundDB,
      some .unboundDC, some .unboundDD, some .unboundDE, some .unboundDF] := rfl

theorem test_decode_rowE :
    [[0b11100000#8, 0xB0#8], [0b11100001#8], [0b11100010#8], [0b11100011#8],
      [0b11100100#8], [0b11100101#8], [0b11100110#8], [0b11100111#8],
      [0b11101000#8], [0b11101001#8], [0b11101010#8], [0b11101011#8],
      [0b11101100#8], [0b11101101#8], [0b11101110#8], [0b11101111#8]].map decoded =
    [some (.ldhA8A 0xB0#8), some .unboundE1, some .unboundE2, some .unboundE3,
      some .unboundE4, some .unboundE5, some .unboundE6, some .unboundE7,
      some .unboundE8, some .unboundE9, some .unboundEA, some .unboundEB,
      some .unboundEC, some .unboundED, some .unboundEE, some .unboundEF] := rfl

theorem test_decode_rowF :
    [[0b11110000#8, 0xB0#8], [0b11110001#8], [0b11110010#8], [0b11110011#8],
      [0b11110100#8], [0b11110101#8], [0b11110110#8], [0b11110111#8],
      [0b11111000#8], [0b11111001#8], [0b11111010#8], [0b11111011#8],
      [0b11111100#8], [0b11111101#8], [0b11111110#8], [0b11111111#8]].map decoded =
    [some (.ldhAA8 0xB0#8), some .unboundF1, some .unboundF2, some .unboundF3,
      some .unboundF4, some .unboundF5, some .unboundF6, some .unboundF7,
      some .unboundF8, some .unboundF9, some .unboundFA, some .unboundFB,
      some .unboundFC, some .unboundFD, some .unboundFE, some .unboundFF] := rfl

/-- The numbering of spec/opcode_table.json: the first byte in the low bits. -/
theorem test_decodeTableWord :
    [decodeTableWord 24 0x123401, decodeTableWord 16 0xFE18, decodeTableWord 8 0x10, decodeTableWord 8 0x01] =
      [some (.ldBcD16 0x1234#16), some (.jrR8 (-2)), some .stop, some (.ldBcD16 0x0000#16)] := rfl

theorem test_decode_too_short :
    (decode .one [] = .error .noBytes ∧ decode .one [0x01#8, 0x34#8] = .error (.truncated 0x01#8) ∧
      decode .two [0x10#8] = .error (.truncated 0x10#8)) := ⟨rfl, rfl, rfl⟩

/-! ### One step from the common start of 95_test_vectors.md -/

/-- A store holding bytes from an index on. -/
def bytesFrom (i : Nat) (bytes : List Byte) : Memory := Memory.fill 0x10000 [] i bytes

/-- The common start, the vector's bytes at 0x0150 of a 0x8000-byte ROM. -/
def common (bytes : List Byte) : State :=
  { State.reset with
    pc := 0x0150#16, bootOff := true, launch := { Launch.empty with rom := bytesFrom 0x150 bytes, romSize := 0x8000 } }

/-- One system step completes and the state after it passes. -/
def afterStep (s : State) (p : State → Bool) : Bool :=
  match step s with
  | .next t => p t
  | .fault _ => false
  | .refused _ => false

/-- One system step ends in CART_RANGE at `addr` and the stopped state passes. -/
def afterFault (s : State) (addr : Word) (p : State → Bool) : Bool :=
  match step s with
  | .fault (.cartRange w t) => w == addr && t.haltedBy == .fault (.cartRange addr) && p t
  | .fault (.noHandler _) => false
  | .fault (.ppuUnreachable _) => false
  | .next _ => false
  | .refused _ => false

/-- One system step is refused for `op` and the stopped state passes. -/
def afterRefusal (s : State) (op : Byte) (p : State → Bool) : Bool :=
  match step s with
  | .refused (.unboundOpcode o t) => o == op && t.haltedBy == .refused (.unboundOpcode op) && p t
  | .refused (.notModelled _) => false
  | .next _ => false
  | .fault _ => false

theorem test_V1_ldBcD16 :
    [afterStep (common [0x01#8, 0x34#8, 0x12#8])
      (fun t => t.pair .bc == 0x1234#16 && t.pc == 0x0153#16)].all id = true := by
  decide

theorem test_V2_ldSpD16 :
    [afterStep (common [0x31#8, 0xFE#8, 0xFF#8])
      (fun t => t.sp == 0xFFFE#16 && t.pc == 0x0153#16)].all id = true := by
  decide

theorem test_V3_ldHlD16 :
    [afterStep (common [0x21#8, 0x00#8, 0x80#8])
      (fun t => t.h == 0x80#8 && t.l == 0x00#8 && t.pc == 0x0153#16)].all id = true := by
  decide

theorem test_V4_ldIndBcA :
    [afterStep { common [0x02#8] with a := 0x5A#8, b := 0xC1#8, c := 0x23#8 }
      (fun t => busRead t 0xC123#16 == .byte 0x5A#8 && t.pc == 0x0151#16)].all id = true := by
  decide

theorem test_V5_ldIndDeA :
    [afterStep { common [0x12#8] with a := 0x77#8, d := 0x01#8, e := 0x50#8 }
      (fun t => busRead t 0x0150#16 == .byte 0x12#8 && t.pc == 0x0151#16)].all id = true := by
  decide

theorem test_V6_V7_ldHliA :
    [afterStep { common [0x22#8] with a := 0x11#8, h := 0xC0#8, l := 0xFF#8 }
      (fun t => busRead t 0xC0FF#16 == .byte 0x11#8 && t.pair .hl == 0xC100#16),
     afterStep { common [0x22#8] with a := 0x11#8, h := 0xFF#8, l := 0xFF#8 }
      (fun t => t.ie == 0x11#8 && t.pair .hl == 0x0000#16)].all id = true := by
  decide

theorem test_V8_V9_ldHldA :
    [afterStep { common [0x32#8] with a := 0x22#8, h := 0xC0#8, l := 0x00#8 }
      (fun t => busRead t 0xC000#16 == .byte 0x22#8 && t.pair .hl == 0xBFFF#16),
     afterStep { common [0x32#8] with a := 0x22#8, h := 0x00#8, l := 0x00#8 }
      (fun t => t.pair .hl == 0xFFFF#16)].all id = true := by
  decide

theorem test_V10_ldAIndBc :
    [afterStep { common [0x0A#8] with b := 0xC0#8, c := 0x10#8, wram := bytesFrom 0x10 [0x9C#8] }
      (fun t => t.a == 0x9C#8 && t.pc == 0x0151#16)].all id = true := by
  decide

theorem test_V11_ldAIndDe :
    [afterStep { common [0x1A#8] with d := 0xE0#8, e := 0x10#8, wram := bytesFrom 0x10 [0x3D#8] }
      (fun t => t.a == 0x3D#8)].all id = true := by
  decide

theorem test_V12_ldAHli :
    [afterStep { common [0x2A#8] with h := 0xC0#8, l := 0x00#8, wram := bytesFrom 0x0 [0x42#8] }
      (fun t => t.a == 0x42#8 && t.pair .hl == 0xC001#16)].all id = true := by
  decide

theorem test_V13_ldAHld :
    [afterStep { common [0x3A#8] with h := 0xC0#8, l := 0x00#8, wram := bytesFrom 0x0 [0x42#8] }
      (fun t => t.a == 0x42#8 && t.pair .hl == 0xBFFF#16)].all id = true := by
  decide

theorem test_V14_ldBD8 :
    [afterStep (common [0x06#8, 0xAB#8])
      (fun t => t.b == 0xAB#8 && t.pc == 0x0152#16)].all id = true := by
  decide

theorem test_V15_ldAD8 :
    [afterStep { common [0x3E#8, 0x00#8] with a := 0xFF#8, flags := Flags.ofByte 0xF0#8 }
      (fun t => t.a == 0x00#8 && t.f == 0xF0#8)].all id = true := by
  decide

theorem test_V16_ldIndHlD8 :
    [afterStep { common [0x36#8, 0x5A#8] with h := 0xC1#8, l := 0x00#8 }
      (fun t => busRead t 0xC100#16 == .byte 0x5A#8 && t.pc == 0x0152#16)].all id = true := by
  decide

theorem test_V17_V18_ldA16Sp :
    [afterStep { common [0x08#8, 0x00#8, 0xC0#8] with sp := 0xBEEF#16 }
      (fun t => busRead t 0xC000#16 == .byte 0xEF#8 && busRead t 0xC001#16 == .byte 0xBE#8 && t.pc == 0x0153#16),
     afterStep { common [0x08#8, 0xFF#8, 0xFF#8] with sp := 0x1234#16 }
      (fun t => busRead t 0xFFFF#16 == .byte 0x34#8 && t.pc == 0x0153#16)].all id = true := by
  decide

theorem test_V19_ldAB :
    [afterStep { common [0x78#8] with b := 0x3C#8 }
      (fun t => t.a == 0x3C#8 && t.b == 0x3C#8)].all id = true := by
  decide

theorem test_V20_ldBB :
    [afterStep { common [0x40#8] with b := 0x3C#8, flags := Flags.ofByte 0x50#8 }
      (fun t => t.b == 0x3C#8 && t.f == 0x50#8)].all id = true := by
  decide

theorem test_V21_ldAIndHl :
    [afterStep { common [0x7E#8] with h := 0xC2#8, l := 0x00#8, wram := bytesFrom 0x200 [0x81#8] }
      (fun t => t.a == 0x81#8)].all id = true := by
  decide

theorem test_V22_ldHIndHl :
    [afterStep { common [0x66#8] with h := 0xC2#8, l := 0x00#8, wram := bytesFrom 0x200 [0x81#8] }
      (fun t => t.h == 0x81#8 && t.l == 0x00#8)].all id = true := by
  decide

theorem test_V23_ldIndHlB :
    [afterStep { common [0x70#8] with b := 0x09#8, h := 0xC3#8, l := 0x00#8 }
      (fun t => busRead t 0xC300#16 == .byte 0x09#8)].all id = true := by
  decide

theorem test_V24_ldIndHlH :
    [afterStep { common [0x74#8] with h := 0xC3#8, l := 0xA0#8 }
      (fun t => busRead t 0xC3A0#16 == .byte 0xC3#8)].all id = true := by
  decide

theorem test_V25_V26_ldhA8A :
    [afterStep { common [0xE0#8, 0x80#8] with a := 0x66#8 }
      (fun t => busRead t 0xFF80#16 == .byte 0x66#8 && t.pc == 0x0152#16),
     afterStep { common [0xE0#8, 0xFF#8] with a := 0x1F#8 }
      (fun t => busRead t 0xFFFF#16 == .byte 0x1F#8)].all id = true := by
  decide

theorem test_V27_ldhAA8 :
    [afterStep { common [0xF0#8, 0x85#8] with hram := bytesFrom 0x5 [0xC4#8] }
      (fun t => t.a == 0xC4#8 && t.pc == 0x0152#16)].all id = true := by
  decide

theorem test_V28_incBc :
    [afterStep { common [0x03#8] with b := 0xFF#8, c := 0xFF#8, flags := Flags.ofByte 0x00#8 }
      (fun t => t.pair .bc == 0x0000#16 && t.f == 0x00#8)].all id = true := by
  decide

theorem test_V29_incSp :
    [afterStep { common [0x33#8] with sp := 0x00FF#16 }
      (fun t => t.sp == 0x0100#16)].all id = true := by
  decide

theorem test_V30_decDe :
    [afterStep { common [0x1B#8] with d := 0x00#8, e := 0x00#8, flags := Flags.ofByte 0xF0#8 }
      (fun t => t.pair .de == 0xFFFF#16 && t.f == 0xF0#8)].all id = true := by
  decide

theorem test_V31_incB :
    [afterStep { common [0x04#8] with b := 0xFF#8, flags := Flags.ofByte 0x10#8 }
      (fun t => t.b == 0x00#8 && t.f == 0xB0#8)].all id = true := by
  decide

theorem test_V32_incC :
    [afterStep { common [0x0C#8] with c := 0x0F#8, flags := Flags.ofByte 0x40#8 }
      (fun t => t.c == 0x10#8 && t.f == 0x20#8)].all id = true := by
  decide

theorem test_V33_incA :
    [afterStep { common [0x3C#8] with a := 0x7F#8, flags := Flags.ofByte 0x00#8 }
      (fun t => t.a == 0x80#8 && t.f == 0x20#8)].all id = true := by
  decide

theorem test_V34_incH :
    [afterStep { common [0x24#8] with h := 0x12#8, flags := Flags.ofByte 0x00#8 }
      (fun t => t.h == 0x13#8 && t.f == 0x00#8)].all id = true := by
  decide

theorem test_V35_incIndHl :
    [afterStep { common [0x34#8] with h := 0xC0#8, l := 0x00#8, wram := bytesFrom 0x0 [0xFF#8] }
      (fun t => busRead t 0xC000#16 == .byte 0x00#8 && t.f == 0xA0#8)].all id = true := by
  decide

theorem test_V36_decB :
    [afterStep { common [0x05#8] with b := 0x01#8, flags := Flags.ofByte 0x00#8 }
      (fun t => t.b == 0x00#8 && t.f == 0xC0#8)].all id = true := by
  decide

theorem test_V37_decC :
    [afterStep { common [0x0D#8] with c := 0x00#8, flags := Flags.ofByte 0x10#8 }
      (fun t => t.c == 0xFF#8 && t.f == 0x70#8)].all id = true := by
  decide

theorem test_V38_decA :
    [afterStep { common [0x3D#8] with a := 0x10#8, flags := Flags.ofByte 0x00#8 }
      (fun t => t.a == 0x0F#8 && t.f == 0x60#8)].all id = true := by
  decide

theorem test_V39_decD :
    [afterStep { common [0x15#8] with d := 0x81#8, flags := Flags.ofByte 0x80#8 }
      (fun t => t.d == 0x80#8 && t.f == 0x40#8)].all id = true := by
  decide

theorem test_V40_V41_decIndHl :
    [afterStep { common [0x35#8] with h := 0xC0#8, l := 0x00#8, wram := bytesFrom 0x0 [0x00#8], flags := Flags.ofByte 0x00#8 }
      (fun t => busRead t 0xC000#16 == .byte 0xFF#8 && t.f == 0x60#8),
     afterStep { common [0x35#8] with h := 0xC0#8, l := 0x00#8, wram := bytesFrom 0x0 [0x01#8], flags := Flags.ofByte 0x10#8 }
      (fun t => busRead t 0xC000#16 == .byte 0x00#8 && t.f == 0xD0#8)].all id = true := by
  decide

theorem test_V42_V43_rlca :
    [afterStep { common [0x07#8] with a := 0x85#8, flags := Flags.ofByte 0x00#8 }
      (fun t => t.a == 0x0B#8 && t.f == 0x10#8),
     afterStep { common [0x07#8] with a := 0x00#8, flags := Flags.ofByte 0xF0#8 }
      (fun t => t.a == 0x00#8 && t.f == 0x00#8)].all id = true := by
  decide

theorem test_V44_V45_rrca :
    [afterStep { common [0x0F#8] with a := 0x01#8, flags := Flags.ofByte 0x00#8 }
      (fun t => t.a == 0x80#8 && t.f == 0x10#8),
     afterStep { common [0x0F#8] with a := 0x3C#8, flags := Flags.ofByte 0x10#8 }
      (fun t => t.a == 0x1E#8 && t.f == 0x00#8)].all id = true := by
  decide

theorem test_V46_V47_rla :
    [afterStep { common [0x17#8] with a := 0x80#8, flags := Flags.ofByte 0x00#8 }
      (fun t => t.a == 0x00#8 && t.f == 0x10#8),
     afterStep { common [0x17#8] with a := 0x40#8, flags := Flags.ofByte 0x10#8 }
      (fun t => t.a == 0x81#8 && t.f == 0x00#8)].all id = true := by
  decide

theorem test_V48_V49_rra :
    [afterStep { common [0x1F#8] with a := 0x01#8, flags := Flags.ofByte 0x00#8 }
      (fun t => t.a == 0x00#8 && t.f == 0x10#8),
     afterStep { common [0x1F#8] with a := 0x02#8, flags := Flags.ofByte 0x10#8 }
      (fun t => t.a == 0x81#8 && t.f == 0x00#8)].all id = true := by
  decide

theorem test_V50_V54_addHlBc :
    [afterStep { common [0x09#8] with h := 0x0F#8, l := 0xFF#8, b := 0x00#8, c := 0x01#8, flags := Flags.ofByte 0x80#8 }
      (fun t => t.pair .hl == 0x1000#16 && t.f == 0xA0#8),
     afterStep { common [0x09#8] with h := 0x00#8, l := 0xFF#8, b := 0x00#8, c := 0x01#8, flags := Flags.ofByte 0x00#8 }
      (fun t => t.pair .hl == 0x0100#16 && t.f == 0x00#8)].all id = true := by
  decide

theorem test_V51_addHlDe :
    [afterStep { common [0x19#8] with h := 0xFF#8, l := 0xFF#8, d := 0x00#8, e := 0x01#8, flags := Flags.ofByte 0x40#8 }
      (fun t => t.pair .hl == 0x0000#16 && t.f == 0x30#8)].all id = true := by
  decide

theorem test_V52_addHlHl :
    [afterStep { common [0x29#8] with h := 0x80#8, l := 0x00#8 }
      (fun t => t.pair .hl == 0x0000#16 && t.f == 0x10#8)].all id = true := by
  decide

theorem test_V53_addHlSp :
    [afterStep { common [0x39#8] with h := 0x12#8, l := 0x34#8, sp := 0x0F00#16 }
      (fun t => t.pair .hl == 0x2134#16 && t.f == 0x20#8)].all id = true := by
  decide

theorem test_V55_addAB :
    [afterStep { common [0x80#8] with a := 0x3A#8, b := 0xC6#8 }
      (fun t => t.a == 0x00#8 && t.f == 0xB0#8)].all id = true := by
  decide

theorem test_V56_addAC :
    [afterStep { common [0x81#8] with a := 0x0F#8, c := 0x01#8 }
      (fun t => t.a == 0x10#8 && t.f == 0x20#8)].all id = true := by
  decide

theorem test_V57_addAA :
    [afterStep { common [0x87#8] with a := 0x80#8 }
      (fun t => t.a == 0x00#8 && t.f == 0x90#8)].all id = true := by
  decide

theorem test_V58_addAD :
    [afterStep { common [0x82#8] with a := 0x12#8, d := 0x34#8, flags := Flags.ofByte 0xF0#8 }
      (fun t => t.a == 0x46#8 && t.f == 0x00#8)].all id = true := by
  decide

theorem test_V59_addAIndHl :
    [afterStep { common [0x86#8] with a := 0xF0#8, h := 0xC0#8, l := 0x00#8, wram := bytesFrom 0x0 [0x20#8] }
      (fun t => t.a == 0x10#8 && t.f == 0x10#8)].all id = true := by
  decide

theorem test_V60_V63_adcAB :
    [afterStep { common [0x88#8] with a := 0x0E#8, b := 0x01#8, flags := Flags.ofByte 0x10#8 }
      (fun t => t.a == 0x10#8 && t.f == 0x20#8),
     afterStep { common [0x88#8] with a := 0x0E#8, b := 0x01#8, flags := Flags.ofByte 0x00#8 }
      (fun t => t.a == 0x0F#8 && t.f == 0x00#8)].all id = true := by
  decide

theorem test_V61_adcAA :
    [afterStep { common [0x8F#8] with a := 0xFF#8, flags := Flags.ofByte 0x10#8 }
      (fun t => t.a == 0xFF#8 && t.f == 0x30#8)].all id = true := by
  decide

theorem test_V62_adcAC :
    [afterStep { common [0x89#8] with a := 0xFE#8, c := 0x01#8, flags := Flags.ofByte 0x10#8 }
      (fun t => t.a == 0x00#8 && t.f == 0xB0#8)].all id = true := by
  decide

theorem test_V64_adcAIndHl :
    [afterStep { common [0x8E#8] with a := 0x00#8, h := 0xC0#8, l := 0x00#8, wram := bytesFrom 0x0 [0xFF#8], flags := Flags.ofByte 0x10#8 }
      (fun t => t.a == 0x00#8 && t.f == 0xB0#8)].all id = true := by
  decide

theorem test_V65_to_V69_jrR8 :
    [afterStep (common [0x18#8, 0x05#8])
      (fun t => t.pc == 0x0157#16),
     afterStep (common [0x18#8, 0xFE#8])
      (fun t => t.pc == 0x0150#16),
     afterStep (common [0x18#8, 0x80#8])
      (fun t => t.pc == 0x00D2#16),
     afterStep (common [0x18#8, 0x7F#8])
      (fun t => t.pc == 0x01D1#16),
     afterStep { common [0x18#8, 0x00#8] with flags := Flags.ofByte 0xF0#8 }
      (fun t => t.pc == 0x0152#16 && t.f == 0xF0#8)].all id = true := by
  decide

theorem test_V70_V71_jrNzR8 :
    [afterStep { common [0x20#8, 0x10#8] with flags := Flags.ofByte 0x00#8 }
      (fun t => t.pc == 0x0162#16),
     afterStep { common [0x20#8, 0x10#8] with flags := Flags.ofByte 0x80#8 }
      (fun t => t.pc == 0x0152#16)].all id = true := by
  decide

theorem test_V72_V73_jrZR8 :
    [afterStep { common [0x28#8, 0xF0#8] with flags := Flags.ofByte 0x80#8 }
      (fun t => t.pc == 0x0142#16),
     afterStep { common [0x28#8, 0xF0#8] with flags := Flags.ofByte 0x00#8 }
      (fun t => t.pc == 0x0152#16)].all id = true := by
  decide

theorem test_V74_V75_jrNcR8 :
    [afterStep { common [0x30#8, 0x02#8] with flags := Flags.ofByte 0x00#8 }
      (fun t => t.pc == 0x0154#16),
     afterStep { common [0x30#8, 0x02#8] with flags := Flags.ofByte 0x10#8 }
      (fun t => t.pc == 0x0152#16)].all id = true := by
  decide

theorem test_V76_V77_jrCR8 :
    [afterStep { common [0x38#8, 0x02#8] with flags := Flags.ofByte 0x10#8 }
      (fun t => t.pc == 0x0154#16),
     afterStep { common [0x38#8, 0x02#8] with flags := Flags.ofByte 0xE0#8 }
      (fun t => t.pc == 0x0152#16)].all id = true := by
  decide

theorem test_V78_to_V89_daa :
    [afterStep { common [0x27#8] with a := 0x10#8, flags := Flags.ofByte 0x20#8 }
      (fun t => t.a == 0x16#8 && t.f == 0x00#8),
     afterStep { common [0x27#8] with a := 0x9A#8, flags := Flags.ofByte 0x00#8 }
      (fun t => t.a == 0x00#8 && t.f == 0x90#8),
     afterStep { common [0x27#8] with a := 0x7D#8, flags := Flags.ofByte 0x00#8 }
      (fun t => t.a == 0x83#8 && t.f == 0x00#8),
     afterStep { common [0x27#8] with a := 0x00#8, flags := Flags.ofByte 0x00#8 }
      (fun t => t.a == 0x00#8 && t.f == 0x80#8),
     afterStep { common [0x27#8] with a := 0x0A#8, flags := Flags.ofByte 0x00#8 }
      (fun t => t.a == 0x10#8 && t.f == 0x00#8),
     afterStep { common [0x27#8] with a := 0x99#8, flags := Flags.ofByte 0x00#8 }
      (fun t => t.a == 0x99#8 && t.f == 0x00#8),
     afterStep { common [0x27#8] with a := 0xA0#8, flags := Flags.ofByte 0x00#8 }
      (fun t => t.a == 0x00#8 && t.f == 0x90#8),
     afterStep { common [0x27#8] with a := 0x00#8, flags := Flags.ofByte 0x30#8 }
      (fun t => t.a == 0x66#8 && t.f == 0x10#8),
     afterStep { common [0x27#8] with a := 0x0F#8, flags := Flags.ofByte 0x60#8 }
      (fun t => t.a == 0x09#8 && t.f == 0x40#8),
     afterStep { common [0x27#8] with a := 0x00#8, flags := Flags.ofByte 0x70#8 }
      (fun t => t.a == 0x9A#8 && t.f == 0x50#8),
     afterStep { common [0x27#8] with a := 0x45#8, flags := Flags.ofByte 0x40#8 }
      (fun t => t.a == 0x45#8 && t.f == 0x40#8),
     afterStep { common [0x27#8] with a := 0xFA#8, flags := Flags.ofByte 0x10#8 }
      (fun t => t.a == 0x60#8 && t.f == 0x10#8)].all id = true := by
  decide

theorem test_V90_V91_cpl :
    [afterStep { common [0x2F#8] with a := 0x35#8, flags := Flags.ofByte 0x90#8 }
      (fun t => t.a == 0xCA#8 && t.f == 0xF0#8),
     afterStep { common [0x2F#8] with a := 0xFF#8, flags := Flags.ofByte 0x00#8 }
      (fun t => t.a == 0x00#8 && t.f == 0x60#8)].all id = true := by
  decide

theorem test_V92_V93_scf :
    [afterStep { common [0x37#8] with flags := Flags.ofByte 0xE0#8 }
      (fun t => t.f == 0x90#8),
     afterStep { common [0x37#8] with flags := Flags.ofByte 0x10#8 }
      (fun t => t.f == 0x10#8)].all id = true := by
  decide

theorem test_V94_V95_ccf :
    [afterStep { common [0x3F#8] with flags := Flags.ofByte 0x90#8 }
      (fun t => t.f == 0x80#8),
     afterStep { common [0x3F#8] with flags := Flags.ofByte 0x60#8 }
      (fun t => t.f == 0x10#8)].all id = true := by
  decide

theorem test_V96_nop :
    [afterStep { common [0x00#8] with flags := Flags.ofByte 0xF0#8 }
      (fun t => t.pc == 0x0151#16 && t.f == 0xF0#8)].all id = true := by
  decide

/-! ### NOP, STOP and unbound opcodes -/

theorem test_V97_V98_stop :
    [afterStep (common [0x10#8, 0x00#8]) (fun t => t.pc == 0x0151#16),
     afterStep { common [0x10#8, 0x00#8] with launch := { (common [0x10#8, 0x00#8]).launch with stopLength := .two } }
      (fun t => t.pc == 0x0152#16)].all id = true := by
  decide

theorem test_V101_unboundAF :
    afterStep { common [0xAF#8] with a := 0x12#8 } (fun t => t.a == 0x12#8 && t.f == 0x00#8 && t.pc == 0x0151#16) = true := by
  decide

theorem test_V103_unbound76_refused :
    afterRefusal { common [0x76#8] with launch := { (common [0x76#8]).launch with unboundPolicy := .refuse } } 0x76#8
      (fun t => t.pc == 0x0151#16 && t.ppu.total == 0) = true := by
  decide

theorem test_X6_unboundCB_refused :
    afterRefusal { common [0xCB#8, 0x37#8] with launch := { (common [0xCB#8]).launch with
      rom := bytesFrom 0x150 [0xCB#8, 0x37#8], unboundPolicy := .refuse } } 0xCB#8
      (fun t => t.pc == 0x0151#16 && t.ppu.total == 0) = true := by
  decide

/-! ### The address decoder -/

/-- The bytes that reads of several addresses give. -/
def reads (s : State) (addrs : List Word) : List BusRead := addrs.map (busRead s)

/-- The machine of vector M1: at power-on, BOOT_ROM[05] = AA, ROM[05] = 55. -/
def booting : State :=
  { State.reset with launch := { Launch.empty with bootRom := bytesFrom 5 [0xAA#8], rom := bytesFrom 5 [0x55#8] } }

/-- A machine whose external RAM has a size. -/
def withExtRam (size : Nat) : State :=
  { common [] with launch := { (common []).launch with extRamSize := size } }

/-- A machine whose ROM has a size, running the bytes at 0x0150. -/
def shortRom (size : Nat) (bytes : List Byte) : State :=
  { common bytes with launch := { (common bytes).launch with romSize := size } }

theorem test_M1_to_M4_boot_overlay :
    busRead booting 0x0005#16 = .byte 0xAA#8 ∧ busRead (memWrite booting 0xFF50#16 0x00#8) 0x0005#16 = .byte 0x55#8 ∧
      busRead (memWrite (memWrite booting 0xFF50#16 0x00#8) 0x0005#16 0x12#8) 0x0005#16 = .byte 0x55#8 ∧
      memWrite booting 0x0005#16 0x12#8 = booting := by
  decide

theorem test_M5_M6_M7_echo :
    busRead (memWrite (common []) 0xC123#16 0x5C#8) 0xE123#16 = .byte 0x5C#8 ∧
      busRead (memWrite (common []) 0xFDFF#16 0x7E#8) 0xDDFF#16 = .byte 0x7E#8 ∧
      busRead (memWrite (common []) 0xF000#16 0x11#8) 0xD000#16 = .byte 0x11#8 := by
  decide

theorem test_M8_M9_M10_external_ram :
    reads (memWrite (memWrite (withExtRam 0x2000) 0xA000#16 0x42#8) 0xBFFF#16 0x43#8) [0xA000#16, 0xBFFF#16] =
        [.byte 0x42#8, .byte 0x43#8] ∧
      reads (memWrite (memWrite (withExtRam 0x800) 0xA7FF#16 0x01#8) 0xA800#16 0x02#8) [0xA7FF#16, 0xA800#16] =
        [.byte 0x01#8, .draw] ∧
      busRead (common []) 0xA000#16 = .draw := by
  decide

theorem test_M11_to_M14_oam_unusable_io :
    busRead (memWrite (common []) 0xFE9F#16 0x9F#8) 0xFE9F#16 = .byte 0x9F#8 ∧
      busRead (memWrite (common []) 0xFEA0#16 0x9F#8) 0xFEA0#16 = .draw ∧
      busRead (memWrite booting 0xFF10#16 0x77#8) 0xFF10#16 = .draw ∧
      (memWrite booting 0xFF10#16 0x77#8).bootOff = false ∧ busRead booting 0xFF50#16 = .draw := by
  decide

theorem test_M15_M16_M17_hram_ie_vram :
    reads (memWrite (memWrite (memWrite (memWrite (common []) 0xFF80#16 0x44#8) 0xFFFE#16 0x45#8) 0xFFFF#16 0x1F#8)
        0x8000#16 0x12#8) [0xFF80#16, 0xFFFE#16, 0xFFFF#16, 0x8000#16] =
      [.byte 0x44#8, .byte 0x45#8, .byte 0x1F#8, .byte 0x12#8] := by
  decide

theorem test_M18_M19_vram_blocking :
    let s : State := { memWrite (common []) 0x8000#16 0x12#8 with
      launch := { (common []).launch with vramBlocking := true } }
    busRead { s with ppu := s.ppu.cycle 80 } 0x8000#16 = .byte 0xFF#8 ∧
      busRead { s with ppu := (s.ppu.cycle 80).cycle 252 } 0x8000#16 = .byte 0x12#8 := by
  decide

theorem test_M20_M21_rom_end :
    busRead (shortRom 0x4000 []) 0x4000#16 = .beyondRom ∧ busRead (shortRom 0x4000 []) 0x3FFF#16 = .byte 0x00#8 ∧
      memWrite (shortRom 0x4000 []) 0x4000#16 0x12#8 = shortRom 0x4000 [] := by
  decide

theorem test_M22_stack_pointer_at_the_top :
    afterStep { common [0x08#8, 0xFF#8, 0xFF#8] with sp := 0x1234#16, ie := 0xAB#8 }
      (fun t => t.ie == 0x34#8 && busRead t 0x0000#16 == .byte 0x00#8 && t.bootOff) = true := by
  decide

/-- The regions at both ends of each range of 20_memory.md R53. -/
theorem test_region_bounds :
    [0x0000#16, 0x00FF#16, 0x0100#16, 0x7FFF#16, 0x8000#16, 0x9FFF#16, 0xA000#16, 0xBFFF#16, 0xC000#16, 0xDFFF#16,
      0xE000#16, 0xFDFF#16, 0xFE00#16, 0xFE9F#16, 0xFEA0#16, 0xFEFF#16, 0xFF00#16, 0xFF7F#16, 0xFF80#16, 0xFFFE#16,
      0xFFFF#16].map region =
    [.bootOverlay, .bootOverlay, .cartRom, .cartRom, .vram, .vram, .extRam, .extRam, .wram, .wram, .echo, .echo, .oam,
      .oam, .unusable, .unusable, .io, .io, .hram, .hram, .ie] := by
  decide

/-! ### The PPU -/

theorem test_T1_to_T6_ppu :
    Ppu.cycle Ppu.powerOn 0 = ⟨.oamScan, 0, 0, 0⟩ ∧
      Ppu.cycle ⟨.oamScan, 0, 0, 0⟩ 80 = ⟨.vramAccess, 0, 0, 80⟩ ∧
      Ppu.cycle ⟨.vramAccess, 0, 0, 80⟩ 252 = ⟨.hblank, 0, 0, 252⟩ ∧
      Ppu.cycle ⟨.hblank, 0, 0, 252⟩ 456 = ⟨.oamScan, 0, 1, 456⟩ ∧
      Ppu.cycle ⟨.oamScan, 0, 1, 456⟩ 536 = ⟨.vramAccess, 0, 1, 536⟩ ∧
      Ppu.cycle ⟨.vramAccess, 0, 1, 536⟩ 65460 = ⟨.hblank, 0, 143, 65460⟩ := by
  decide +kernel

theorem test_T7_to_T11_ppu :
    Ppu.cycle ⟨.hblank, 0, 143, 65460⟩ 65663 = ⟨.hblank, 203, 143, 65663⟩ ∧
      Ppu.cycle ⟨.hblank, 203, 143, 65663⟩ 65664 = ⟨.vblank, 0, 144, 65664⟩ ∧
      Ppu.cycle ⟨.vblank, 0, 144, 65664⟩ 70223 = ⟨.vblank, 4559, 144, 70223⟩ ∧
      Ppu.cycle ⟨.vblank, 4559, 144, 70223⟩ 70224 = ⟨.oamScan, 0, 0, 70224⟩ ∧
      Ppu.cycle ⟨.oamScan, 0, 0, 70224⟩ 70304 = ⟨.vramAccess, 0, 0, 70304⟩ := by
  decide +kernel

theorem test_T12_T13_ppu_alone :
    Ppu.powerOn.cycle 500 = ⟨.oamScan, 44, 1, 500⟩ ∧
      Ppu.powerOn.cycle 140449 = ⟨.oamScan, 1, 0, 140449⟩ := by
  decide +kernel

/-- A step advances the PPU by its cost: 1 by default, the T-states of 70_reset_and_hazards.md R364 where chosen. -/
theorem test_step_cost :
    afterStep (common [0x00#8]) (fun t => t.ppu == ⟨.oamScan, 1, 0, 1⟩) = true ∧
      afterStep { common [0x20#8, 0x10#8] with launch := { (common [0x20#8, 0x10#8]).launch with cycleCost := tStateCost } }
        (fun t => t.pc == 0x0162#16 && t.ppu.total == 12) = true ∧
      afterStep { common [0x20#8, 0x10#8] with
          flags := Flags.ofByte 0x80#8, launch := { (common [0x20#8, 0x10#8]).launch with cycleCost := tStateCost } }
        (fun t => t.pc == 0x0152#16 && t.ppu.total == 8) = true := by
  decide +kernel

/-! ### Faults -/

theorem test_X1_opcode_fetch :
    afterFault { shortRom 0x4000 [] with pc := 0x4000#16 } 0x4000#16 (fun t => t.pc == 0x4000#16 && t.ppu.total == 0) =
      true := by
  decide

theorem test_X2_operand_fetch :
    afterFault { shortRom 0x4000 [] with
        pc := 0x3FFF#16, b := 0x12#8, c := 0x34#8,
        launch := { (shortRom 0x4000 []).launch with rom := bytesFrom 0x3FFF [0x01#8] } } 0x4000#16
      (fun t => t.pc == 0x4000#16 && t.pair .bc == 0x1234#16 && t.ppu.total == 0) = true := by
  decide

theorem test_X3_second_step :
    afterFault { shortRom 0x4000 [0x2A#8] with a := 0x77#8, h := 0x40#8, ppu := ⟨.oamScan, 1, 0, 1⟩ } 0x4000#16
      (fun t => t.pc == 0x0151#16 && t.a == 0x77#8 && t.pair .hl == 0x4000#16 && t.ppu.total == 1) = true := by
  decide

theorem test_X4_incIndHl :
    afterFault { shortRom 0x4000 [0x34#8] with h := 0x40#8, flags := Flags.ofByte 0x50#8 } 0x4000#16
      (fun t => t.pc == 0x0151#16 && t.f == 0x50#8) = true := by
  decide

theorem test_X7_halted :
    step { common [0x3C#8] with haltedBy := .refused (.unboundOpcode 0x76#8) } =
      .refused (.unboundOpcode 0x76#8 { common [0x3C#8] with haltedBy := .refused (.unboundOpcode 0x76#8) }) := rfl

/-! ### Launching -/

/-- A launch with no drawn byte other than 0. -/
def zeroStart : Start :=
  { a := 0, f := 0, b := 0, c := 0, d := 0, e := 0, h := 0, l := 0, sp := 0, pc := 0, ie := 0, bootOff := false,
    extRam := [], vram := [], wram := [], oam := [], hram := [], ppu := Ppu.powerOn }

/-- The error of a launch, if it has one. -/
def launchError (bootRom rom : List Byte) : Option LaunchError :=
  match launch bootRom rom Params.default (Start.powerOn zeroStart) with
  | .ok _ => none
  | .error e => some e

theorem test_X8_launch_errors :
    launchError (List.replicate 0xFF 0x00#8) (List.replicate 0x14D 0x00#8) = some .bootRomLength ∧
      launchError (List.replicate 0x100 0x00#8) (List.replicate 0x14C 0x00#8) = some .romTooShort ∧
      launchError (List.replicate 0x100 0x00#8) (List.replicate 0x149 0x00#8 ++ List.replicate 4 0x06#8) =
        some (.ramSizeCode 0x06#8) ∧
      launchError (List.replicate 0x100 0x00#8) (List.replicate 0x149 0x00#8 ++ List.replicate 4 0x05#8) = none := by
  decide +kernel

/-- S10: the table of external RAM sizes (20_memory.md R70). -/
theorem test_S10_external_ram_sizes :
    [0x00#8, 0x01#8, 0x02#8, 0x03#8, 0x04#8, 0x05#8, 0x06#8].map extRamSizeOf =
      [some 0, some 0x800, some 0x2000, some 0x8000, some 0x20000, some 0x10000, none] := by
  decide

/-- The profile POST_BOOT (70_reset_and_hazards.md R360). -/
theorem test_post_boot :
    let s := launched [] [0x00#8] 0 Params.default (Start.postBoot zeroStart)
    (s.af, s.pair .bc, s.pair .de, s.pair .hl, s.sp, s.pc, s.bootOff) =
      (0x01B0#16, 0x0013#16, 0x00D8#16, 0x014D#16, 0xFFFE#16, 0x0100#16, true) := by
  decide

/-! ### Running from reset -/

/-- From reset with nothing placed BOOT_ROM reads 0x00, a NOP (log entry 4). -/
theorem test_first_step_from_reset :
    afterStep State.reset (fun t => t.pc == 0x0001#16 && t.ppu.total == 1 && t.haltedBy == .none) = true := by
  decide

theorem test_withFetchWord_from_reset :
    afterStep (State.reset.withFetchWord 24 0x123401) (fun t => t.pair .bc == 0x1234#16 && t.pc == 0x0003#16) = true ∧
      afterStep (State.reset.withFetchWord 16 0xFE18) (fun t => t.pc == 0x0000#16) = true ∧
      afterStep (State.reset.withFetchWord 8 0x3C) (fun t => t.a == 0x01#8 && t.pc == 0x0001#16) = true := by
  decide

/-- Where PC is no place for a program, the word is placed in work RAM (log entry 14). -/
theorem test_withFetchWord_relocates :
    afterStep (State.withFetchWord { State.reset with pc := 0xFF00#16, haltedBy := .fault .noHandler } 8 0x3C)
      (fun t => t.a == 0x01#8 && t.pc == 0xC001#16) = true := by
  decide

/-- The stores are canonical at reset, and a store that writes back what an unlisted byte reads as lists nothing. -/
theorem test_memory_canonical :
    State.reset.StoresOk ∧ memWrite (memWrite State.reset 0xC000#16 0x12#8) 0xC000#16 0x00#8 = State.reset := by
  decide

/-! ### Witnesses: a state and operands that meet the hypotheses of each obligation that has some, clause by clause -/

/-- A running machine that refuses unbound opcodes. -/
def refusing (bytes : List Byte) : State :=
  { common bytes with launch := { (common bytes).launch with unboundPolicy := .refuse } }

theorem test_witness_DecodeOfEncodeIsTheInstruction :
    Instr.wf (.jrR8 127) = true ∧ Instr.wf (.jrNzR8 (-128)) = true ∧ Instr.wf .unboundFF = true := by decide

theorem test_witness_EncodeOfDecodeIsTheBytes :
    (decode .one [0x10#8, 0x3C#8] = .ok (.stop, [0x3C#8]) ∧ (StopLength.one = .one ∨ Instr.stop ≠ .stop)) ∧
      (decode .two [0x18#8, 0x80#8] = .ok (.jrR8 (-128), []) ∧ (StopLength.two = .one ∨ Instr.jrR8 (-128) ≠ .stop)) :=
  ⟨⟨rfl, .inl rfl⟩, ⟨rfl, .inr (by decide)⟩⟩

theorem test_witness_DecodeFailsOnlyOnMissingBytes :
    [0x34#8].length < operandCount .one 0x01#8 ∧ operandCount .one 0x01#8 ≤ [0x34#8, 0x12#8].length ∧
      ([] : List Byte).length < operandCount .two 0x10#8 := by decide

theorem test_witness_UnboundBytesAndRuleForms :
    (∀ op, Form.unbound 0x90#8 = .unbound op → unboundByte op = true) ∧
      (∀ op, Form.nop = .unbound op → unboundByte op = true) := by
  constructor
  · intro op h; cases h; decide
  · intro op h; cases h

/-- A stored LD A,d8 that goes on, a data read beyond the ROM, a refusal, and an opcode that is a draw. -/
theorem test_witness_StepRunsTheDecodedInstruction :
    ((common [0x3E#8, 0x12#8]).haltedBy = .none ∧
      Fetches (common [0x3E#8, 0x12#8]) [0x3E#8, 0x12#8] { common [0x3E#8, 0x12#8] with pc := 0x0152#16 } ∧
      decode (common [0x3E#8, 0x12#8]).launch.stopLength [0x3E#8, 0x12#8] = .ok (.ldAD8 0x12#8, []) ∧
      exec (.ldAD8 0x12#8) { common [0x3E#8, 0x12#8] with pc := 0x0152#16 } =
        .next { common [0x3E#8, 0x12#8] with pc := 0x0152#16, a := 0x12#8 }) ∧
    (Fetches { shortRom 0x4000 [0x0A#8] with b := 0x40#8 } [0x0A#8]
        { shortRom 0x4000 [0x0A#8] with b := 0x40#8, pc := 0x0151#16 } ∧
      exec .ldAIndBc { shortRom 0x4000 [0x0A#8] with b := 0x40#8, pc := 0x0151#16 } =
        .fault (.cartRange 0x4000#16
          (stoppedAt { shortRom 0x4000 [0x0A#8] with b := 0x40#8, pc := 0x0151#16 } 0x4000#16))) ∧
    (∃ u r, (refusing [0x76#8]).haltedBy = .none ∧ Fetches (refusing [0x76#8]) [0x76#8] u ∧
      exec .unbound76 u = .refused r) ∧
    ∃ v u, Fetches { common [] with pc := 0xFF00#16 } [v] u ∧ u.draws = 1 :=
  ⟨⟨rfl, .inl ⟨rfl, .inl ⟨rfl, rfl⟩⟩, rfl, rfl⟩, ⟨.inl ⟨rfl, rfl⟩, rfl⟩, ⟨_, _, rfl, .inl ⟨rfl, rfl⟩, rfl⟩,
    ⟨_, _, .inr ⟨rfl, rfl, rfl⟩, rfl⟩⟩

theorem test_witness_HaltedMachineTakesNoStep :
    ({ State.reset with haltedBy := .fault (.cartRange 0x7FFF#16) } : State).haltedBy = .fault (.cartRange 0x7FFF#16) ∧
      ({ State.reset with haltedBy := .fault .noHandler } : State).haltedBy = .fault .noHandler ∧
      ({ State.reset with haltedBy := .fault .ppuUnreachable } : State).haltedBy = .fault .ppuUnreachable ∧
      ({ State.reset with haltedBy := .refused (.unboundOpcode 0xFF#8) } : State).haltedBy =
        .refused (.unboundOpcode 0xFF#8) := ⟨rfl, rfl, rfl, rfl⟩

/-- A machine whose ROM ends right after the opcode byte at PC. -/
def romEndsAfter (n : StopLength) (op : Byte) : State :=
  { common [] with
    pc := 0x3FFF#16,
    launch := { (common []).launch with rom := [(0x3FFF, op)], romSize := 0x4000, stopLength := n } }

/-- A machine whose ROM ends after the first of two operand bytes. -/
def romEndsAfterTwo (op v : Byte) : State :=
  { common [] with
    pc := 0x3FFE#16, launch := { (common []).launch with rom := [(0x3FFE, op), (0x3FFF, v)], romSize := 0x4000 } }

/-- The hypotheses of OperandFetchFaults hold, for every opcode that takes an operand byte, at its first one. -/
theorem test_witness_OperandFetchFaults_first (op : Byte) (n : StopLength) (h : 0 < operandCount n op) :
    (romEndsAfter n op).haltedBy = .none ∧ BytesAt (romEndsAfter n op) (romEndsAfter n op).pc [op] ∧
      ([] : List Byte).length < operandCount (romEndsAfter n op).launch.stopLength op ∧
      busRead (romEndsAfter n op) ((romEndsAfter n op).pc + 1#16 + BitVec.ofNat 16 0) = .beyondRom :=
  ⟨rfl, ⟨rfl, trivial⟩, h, rfl⟩

/-- And at the second operand byte of the five instructions that take two. -/
theorem test_witness_OperandFetchFaults_second :
    ∀ op ∈ [0x01#8, 0x11#8, 0x21#8, 0x31#8, 0x08#8],
      (romEndsAfterTwo op 0x34#8).haltedBy = .none ∧ BytesAt (romEndsAfterTwo op 0x34#8) 0x3FFE#16 [op, 0x34#8] ∧
        [0x34#8].length < operandCount .one op ∧
        busRead (romEndsAfterTwo op 0x34#8) (0x3FFE#16 + 1#16 + BitVec.ofNat 16 1) = .beyondRom := by
  intro op h
  refine ⟨rfl, ⟨rfl, rfl, trivial⟩, ?_, rfl⟩
  revert op
  decide

/-- The opcodes whose obligations cite OperandFetchFaults take an operand byte. -/
theorem test_witness_operandCount_positive :
    (∀ p ∈ [Pair.bc, .de, .hl, .sp], 0 < operandCount .one (0b00#2 ++ p.code ++ 0b0001#4)) ∧
      (∀ r ∈ [Reg8.b, .c, .d, .e, .h, .l, .a], 0 < operandCount .one (0b00#2 ++ r.code ++ 0b110#3)) ∧
      (∀ cc ∈ [Cond.nz, .z, .nc, .c], 0 < operandCount .one (0b001#3 ++ cc.code ++ 0b000#3)) ∧
      (∀ op ∈ [0b00001000#8, 0b00110110#8, 0b11100000#8, 0b11110000#8, 0b00011000#8], 0 < operandCount .one op) ∧
      0 < operandCount .two 0b00010000#8 := by decide

theorem test_witness_FetchFaultIsPrecise :
    ({ shortRom 0x4000 [] with pc := 0x4000#16 } : State).haltedBy = .none ∧
      busRead { shortRom 0x4000 [] with pc := 0x4000#16 } 0x4000#16 = .beyondRom ∧
      busRead { shortRom 0x4000 [] with pc := 0x7FFF#16 } 0x7FFF#16 = .beyondRom := ⟨rfl, rfl, rfl⟩

theorem test_witness_EveryFaultIsAPreciseCartRange :
    ({ shortRom 0x4000 [] with pc := 0x4000#16 } : State).haltedBy = .none ∧
      step { shortRom 0x4000 [] with pc := 0x4000#16 } =
        .fault (.cartRange 0x4000#16 (stoppedAt { shortRom 0x4000 [] with pc := 0x4000#16 } 0x4000#16)) ∧
      (romEndsAfterTwo 0x21#8 0x34#8).haltedBy = .none ∧
      step (romEndsAfterTwo 0x21#8 0x34#8) =
        .fault (.cartRange 0x4000#16 (stoppedAt { romEndsAfterTwo 0x21#8 0x34#8 with pc := 0x4000#16 } 0x4000#16)) ∧
      ({ shortRom 0x4000 [0x0A#8] with b := 0x40#8 } : State).haltedBy = .none ∧
      step { shortRom 0x4000 [0x0A#8] with b := 0x40#8 } =
        .fault (.cartRange 0x4000#16
          (stoppedAt { shortRom 0x4000 [0x0A#8] with b := 0x40#8, pc := 0x0151#16 } 0x4000#16)) :=
  ⟨rfl, rfl, rfl, rfl, rfl, rfl⟩

theorem test_witness_RefusalOnlyForUnboundUnderRefuse :
    (refusing [0x76#8]).haltedBy = .none ∧ ∃ r, step (refusing [0x76#8]) = .refused r := ⟨rfl, _, rfl⟩

theorem test_witness_PcMovesPastTheInstruction :
    Fetches (common [0x3E#8, 0x12#8]) [0x3E#8] { common [0x3E#8, 0x12#8] with pc := 0x0151#16 } ∧
      (∀ o1 o2, isJump (decodeInstr 0x3E#8 o1 o2).form = false) ∧ ∃ t, step (common [0x3E#8, 0x12#8]) = .next t :=
  ⟨.inl ⟨rfl, rfl⟩, fun _ _ => rfl, _, rfl⟩

theorem test_witness_RegisterFileWrites : Reg8.b ≠ .a ∧ Pair.de ≠ .hl ∧ Reg8.a ∉ pairRegs .bc ∧ Reg8.a ∉ pairRegs .sp := by
  decide

/-- Every guarded clause of the frame is met by a copy into B. -/
theorem test_witness_RegisterAndFlagFrame :
    (∃ t, exec .ldBC (common []) = .next t) ∧ Reg8.a ∉ destRegs (Instr.form .ldBC) ∧
      writesSp (Instr.form .ldBC) = false ∧ isJump (Instr.form .ldBC) = false ∧
      flagsWritten (Instr.form .ldBC) = { z := false, n := false, h := false, c := false } := ⟨⟨_, rfl⟩, by decide⟩

/-- A store to work RAM meets every clause but the one of work RAM itself, which LD B,C meets; a store to VRAM leaves
another byte of it. -/
theorem test_witness_MemoryFrame :
    (∃ t, exec .ldIndHlB { common [] with h := 0xC0#8, b := 0x12#8 } = .next t) ∧
      (∀ addr ∈ storedTo { common [] with h := 0xC0#8, b := 0x12#8 } (Instr.form .ldIndHlB),
        addr = 0xC000#16 ∧ Untouched addr 0xC001#16) ∧
      ((0xC000#16).toNat < 0xFE00 ∧ 0xBFFF < (0xC000#16).toNat) ∧
      0xFFFF#16 ∉ storedTo { common [] with h := 0xC0#8, b := 0x12#8 } (Instr.form .ldIndHlB) ∧
      0xFF50#16 ∉ storedTo { common [] with h := 0xC0#8, b := 0x12#8 } (Instr.form .ldIndHlB) ∧
      storedTo (common []) (Instr.form .ldBC) = [] ∧ (∃ t, exec .ldBC (common []) = .next t) ∧
      (∃ t, exec .ldIndHlB { common [] with h := 0x80#8, b := 0x12#8, ppu := ⟨.vramAccess, 0, 0, 80⟩ } = .next t) ∧
      0x9FFF#16 ∉ storedTo { common [] with h := 0x80#8, b := 0x12#8, ppu := ⟨.vramAccess, 0, 0, 80⟩ }
        (Instr.form .ldIndHlB) := by
  refine ⟨⟨_, rfl⟩, ?_, by decide, by decide, by decide, rfl, ⟨_, rfl⟩, ⟨_, rfl⟩, by decide⟩
  intro addr h
  simp only [storedTo, Instr.form, List.mem_singleton] at h
  subst h
  exact ⟨by decide, by decide, by decide⟩

/-- The form hypotheses of the per-rule obligations, an instruction of each rule: LdPairImmediate, LdRegisterImmediate,
LoadsIntoARegister, StoresThroughHl, IncDecPair, IncDecRegister, AddHlPair, AddAdcRegister, UnboundOpcodePolicies. -/
theorem test_witness_forms :
    Instr.form (.ldSpD16 0xFFFF#16) = .ldPairImm .sp 0xFFFF#16 ∧ Instr.form (.ldAD8 0xFF#8) = .ldRegImm .a 0xFF#8 ∧
      Instr.form .ldBA = .ldRegReg .b .a ∧ Instr.form .ldLIndHl = .ldRegMem .l ∧ Instr.form .ldIndHlH = .ldMemReg .h ∧
      Instr.form .incSp = .incPair .sp ∧ Instr.form .decBc = .decPair .bc ∧ Instr.form .incL = .incReg .l ∧
      Instr.form .decA = .decReg .a ∧ Instr.form .addHlHl = .addHl .hl ∧ Instr.form .addAA = .addReg .a ∧
      Instr.form .adcAB = .adcReg .b ∧ Instr.form .unbound76 = .unbound 0x76#8 := by decide

/-- The three cases of GoesOnWithRead, at addresses that HL, BC, DE and the zero page can hold (LoadAThroughAPair,
LoadsIntoARegister, LdhZeroPage, IncDecMemory, AddAdcMemory). -/
theorem test_witness_GoesOnWithRead :
    busRead (common []) 0xC000#16 = .byte 0x00#8 ∧ busRead (common []) 0xFFFF#16 = .byte 0x00#8 ∧
      busRead (common []) 0xFF00#16 = .draw ∧ busRead (common []) 0xFF7F#16 = .draw ∧
      busRead (common []) 0xFF80#16 = .byte 0x00#8 ∧ busRead (shortRom 0x4000 []) 0x4000#16 = .beyondRom := by decide

theorem test_witness_LdhZeroPage :
    (0xFF00#16).toNat = 0xFF00 + (0x00#8).toNat ∧ (0xFFFF#16).toNat = 0xFF00 + (0xFF#8).toNat ∧
      (0x80 ≤ (0x80#8).toNat ∧ (0xFE#8).toNat ≤ 0xFE) ∧ ((0x7F#8).toNat ≤ 0x7F ∧ 0x7F#8 ≠ 0x50#8) := by decide

/-- The corner cases of StoreAThroughAPair. -/
theorem test_witness_StoreAThroughAPair :
    wordOf 0xFF#8 0x50#8 = 0xFF50#16 ∧ (wordOf 0x7F#8 0xFF#8).toNat ≤ 0x7FFF ∧ wordOf 0xFF#8 0xFF#8 = 0xFFFF#16 ∧
      wordOf 0x00#8 0x00#8 = 0x0000#16 := by decide

/-- The operands of IncDecRegister, AddHlPair, AddAdcRegister and AddAdcMemory are read from the state: 0xFF and 0x0F, with a carry-in. -/
theorem test_witness_arithmetic :
    let s : State := { common [] with a := 0xFF#8, b := 0x0F#8, h := 0x0F#8, l := 0xFF#8, flags := Flags.ofByte 0x10#8 }
    255 = s.a.toNat ∧ 15 = (s.reg .b).toNat ∧ 0x0FFF = (s.pair .hl).toNat ∧ 1 = (if s.flags.c then 1 else 0) := by decide

/-- A machine at a jump. -/
def jumpAt (op e : Byte) : State :=
  { common [] with launch := { (common []).launch with rom := [(0x150, op), (0x151, e)] } }

/-- The state and the bytes of the jumps' steps, each condition holding and failing. -/
theorem test_witness_JrAddsTheSignedOffset_JrConditional :
    ({ common [] with pc := 0x0152#16 + (0xFE#8).signExtend 16 } : State) = { common [] with pc := 0x0150#16 } ∧
      (∀ op ∈ [0x18#8, 0x20#8, 0x28#8, 0x30#8, 0x38#8],
        (jumpAt op 0x80#8).haltedBy = .none ∧ BytesAt (jumpAt op 0x80#8) (jumpAt op 0x80#8).pc [op, 0x80#8]) ∧
      (∀ op ∈ [0x20#8, 0x30#8], jumpsOn op (Flags.ofByte 0x00#8) = true ∧ jumpsOn op (Flags.ofByte 0x90#8) = false) ∧
      ∀ op ∈ [0x28#8, 0x38#8], jumpsOn op (Flags.ofByte 0x90#8) = true ∧ jumpsOn op (Flags.ofByte 0x00#8) = false :=
  ⟨by decide, fun _ _ => ⟨rfl, rfl, rfl, trivial⟩, by decide, by decide⟩

theorem test_witness_DaaAdjusts :
    (common [0x27#8]).flags.n = false ∧ ({ common [0x27#8] with flags := Flags.ofByte 0x40#8 } : State).flags.n = true := by
  decide

theorem test_witness_DaaAfterAdcIsDecimalAddition :
    let s : State := { common [] with a := 0x99#8, b := 0x99#8, flags := Flags.ofByte 0x10#8 }
    99 ≤ 99 ∧ 1 = (if s.flags.c then 1 else 0) ∧ s.a = bcd 99 ∧ s.b = bcd 99 ∧ ∃ t, exec .adcAB s = .next t :=
  ⟨by decide, by decide, by decide, by decide, _, rfl⟩

/-- A machine about to run STOP as two bytes. -/
def twoByteStop : State :=
  { common [0x10#8, 0x3C#8] with launch := { (common [0x10#8, 0x3C#8]).launch with stopLength := .two } }

theorem test_witness_NopDoesNothing_StopDoesNotStop :
    (busRead (common [0x10#8, 0x3C#8]) 0x0150#16 = .byte 0b00010000#8 ∧ (common [0x10#8, 0x3C#8]).haltedBy = .none ∧
      (common [0x10#8, 0x3C#8]).launch.stopLength = .one) ∧
    (busRead twoByteStop twoByteStop.pc = .byte 0b00010000#8 ∧ twoByteStop.haltedBy = .none ∧
      twoByteStop.launch.stopLength = .two ∧ busRead twoByteStop (twoByteStop.pc + 1#16) = .byte 0x3C#8) ∧
    (busRead { shortRom 0x4000 [] with pc := 0x4000#16 } 0x4000#16 = .beyondRom) := by decide

theorem test_witness_UnboundOpcodePolicies :
    Instr.form .unboundCB = .unbound 0xCB#8 ∧ (common []).launch.unboundPolicy = .nop ∧
      (refusing []).launch.unboundPolicy = .refuse := by decide

theorem test_witness_RomWindowReads :
    ((0x00FF#16).toNat ≤ 0x00FF ∧ booting.bootOff = false) ∧
      ((0x00FF#16).toNat ≤ 0x00FF ∧ (shortRom 0x4000 []).bootOff = true ∧
        (0x00FF#16).toNat < (shortRom 0x4000 []).launch.romSize) ∧
      (0x0100 ≤ (0x0100#16).toNat ∧ (0x3FFF#16).toNat < (shortRom 0x4000 []).launch.romSize) ∧
      ((0x7FFF#16).toNat ≤ 0x7FFF ∧ (shortRom 0x4000 []).launch.romSize ≤ (0x4000#16).toNat) := by decide

theorem test_witness_EchoAliasesWorkRam :
    (common []).StoresOk ∧ (0xC000 ≤ (0xC000#16).toNat ∧ (0xDFFF#16).toNat ≤ 0xDFFF) ∧ (0xDDFF#16).toNat ≤ 0xDDFF ∧
      (0xDE00 ≤ (0xDE00#16).toNat ∧ (0xDFFF#16).toNat ≤ 0xDFFF ∧ 0xFDFF#16 ≠ 0xDE00#16) := by decide

/-- Two bytes that a store cannot confuse, and one in the boot overlay's window when the store disables it. -/
theorem test_witness_Untouched :
    Untouched 0xC000#16 0xC001#16 ∧ Untouched 0xC000#16 0xE001#16 ∧ Untouched 0xFF50#16 0x0100#16 :=
  ⟨⟨by decide, by decide⟩, ⟨by decide, by decide⟩, ⟨by decide, by decide⟩⟩

theorem test_witness_StoresReadBackWhatWasWritten :
    (withExtRam 0x800).StoresOk ∧
      ((0x9FFF#16).toNat ≤ 0x9FFF ∧ ((withExtRam 0x800).launch.vramBlocking = false ∨
        (withExtRam 0x800).ppu.mode ≠ .vramAccess)) ∧
      (0xA000 ≤ (0xA7FF#16).toNat ∧ (0xA7FF#16).toNat < 0xA000 + (withExtRam 0x800).launch.extRamSize) ∧
      (0xA000 + (withExtRam 0x800).launch.extRamSize ≤ (0xA800#16).toNat ∧ (0xA800#16).toNat ≤ 0xBFFF) ∧
      (0xC000 ≤ (0xC000#16).toNat ∧ 0xDFFF < (0xE000#16).toNat ∧ (0xFDFF#16).toNat ≤ 0xFDFF) ∧
      (0xFE00 ≤ (0xFE9F#16).toNat ∧ (0xFE9F#16).toNat ≤ 0xFE9F) ∧
      (0xFF80 ≤ (0xFF80#16).toNat ∧ (0xFFFE#16).toNat ≤ 0xFFFE) ∧ (0xFFFF#16).toNat = 0xFFFF := by decide

theorem test_witness_IoWrites_DrawnReads :
    (0xFF00 ≤ (0xFF50#16).toNat ∧ (0xFF50#16).toNat ≤ 0xFF7F) ∧ (0xFEA0 ≤ (0xFEA0#16).toNat ∧ (0xFF7F#16).toNat ≤ 0xFF7F) ∧
      (0x7FFF#16).toNat ≤ 0x7FFF ∧ (0xFEFF#16).toNat ≤ 0xFEFF := by decide

theorem test_witness_VramBlocking :
    let s : State := { common [] with
      ppu := ⟨.vramAccess, 0, 0, 80⟩, launch := { (common []).launch with vramBlocking := true } }
    (0x8000 ≤ (0x8000#16).toNat ∧ (0x9FFF#16).toNat ≤ 0x9FFF) ∧ (s.launch.vramBlocking = true ∧ s.ppu.mode = .vramAccess) ∧
      ((common []).launch.vramBlocking = false ∨ (common []).ppu.mode ≠ .vramAccess) := by decide

theorem test_witness_PpuCycleFollowsTheRules :
    (Ppu.mode ⟨.oamScan, 0, 0, 0⟩ = .oamScan ∧ Ppu.mode ⟨.vramAccess, 0, 0, 0⟩ = .vramAccess ∧
      Ppu.mode ⟨.vblank, 0, 144, 0⟩ = .vblank ∧ Ppu.mode ⟨.hblank, 0, 143, 0⟩ = .hblank ∧
      Ppu.line ⟨.hblank, 0, 143, 0⟩ + 1 = 144 ∧ Ppu.line ⟨.hblank, 0, 142, 0⟩ + 1 ≠ 144) ∧
    (Ppu.powerOn.total ≤ 79 ∧ 0 + (79 - 0) < PpuMode.budget .oamScan) ∧
    (Ppu.powerOn.total ≤ 80 ∧ PpuMode.budget .oamScan ≤ 0 + (80 - 0)) := by decide

theorem test_witness_PpuAdvanceInTwoCallsIsOne : Ppu.powerOn.total ≤ 500 ∧ 500 ≤ 70224 := by decide

/-- A launched machine that is neither halted nor at power-on, three cycles into a frame. -/
def running : State := { common [0x3C#8, 0xE0#8, 0x50#8] with ppu := ⟨.oamScan, 3, 0, 3⟩ }

/-- The state after one step of `running`. -/
def runningNext : State := { running with a := 0x01#8, pc := 0x0151#16, ppu := ⟨.oamScan, 4, 0, 4⟩ }

theorem test_witness_running : step running = .next runningNext := rfl

theorem test_witness_StepKeepsThePpuInPhase_PpuIsInvisible :
    running.ppu.Ok ∧ running.ppu.frameCycle = running.ppu.total % frameCycles ∧ step running = .next runningNext ∧
      running.launch.cycleCost = .perStep 1 ∧ running.launch.vramBlocking = false :=
  ⟨by decide, by decide, rfl, rfl, rfl⟩

/-- `running` with a cost table: a row for INC A and one for JR NZ, taken by its flags. -/
def tabled (bytes : List Byte) : State :=
  { common bytes with
    launch := { (common bytes).launch with cycleCost := .perOpcode [⟨0x3C#8, 4, 4⟩, ⟨0x20#8, 8, 12⟩] } }

/-- The cost clauses: a first row, a later row with the jump taken, and an opcode without a row. -/
theorem test_witness_StepKeepsThePpuInPhase_costs :
    (Fetches (tabled [0x3C#8]) [0x3C#8] { tabled [0x3C#8] with pc := 0x0151#16 } ∧ (∃ t, step (tabled [0x3C#8]) = .next t) ∧
      (tabled [0x3C#8]).ppu.Ok ∧ (tabled [0x3C#8]).ppu.frameCycle = (tabled [0x3C#8]).ppu.total % frameCycles) ∧
    ([⟨0x3C#8, 4, 4⟩, ⟨0x20#8, 8, 12⟩] : List CostRow) = [] ++ ⟨0x3C#8, 4, 4⟩ :: [⟨0x20#8, 8, 12⟩] ∧
    ([⟨0x3C#8, 4, 4⟩, ⟨0x20#8, 8, 12⟩] : List CostRow) = [⟨0x3C#8, 4, 4⟩] ++ ⟨0x20#8, 8, 12⟩ :: [] ∧
    (∀ r ∈ ([⟨0x3C#8, 4, 4⟩] : List CostRow), r.opcode ≠ 0x20#8) ∧
    (Fetches (tabled [0x20#8, 0x10#8]) [0x20#8] { tabled [0x20#8, 0x10#8] with pc := 0x0151#16 } ∧
      (∃ t, step (tabled [0x20#8, 0x10#8]) = .next t) ∧ jumpsOn 0x20#8 (tabled [0x20#8, 0x10#8]).flags = true) ∧
    (Fetches (tabled [0x00#8]) [0x00#8] { tabled [0x00#8] with pc := 0x0151#16 } ∧ (∃ t, step (tabled [0x00#8]) = .next t) ∧
      ∀ r ∈ ([⟨0x3C#8, 4, 4⟩, ⟨0x20#8, 8, 12⟩] : List CostRow), r.opcode ≠ 0x00#8) :=
  ⟨⟨.inl ⟨rfl, rfl⟩, ⟨_, rfl⟩, by decide, by decide⟩, rfl, rfl, by decide, ⟨.inl ⟨rfl, rfl⟩, ⟨_, rfl⟩, rfl⟩,
    ⟨.inl ⟨rfl, rfl⟩, ⟨_, rfl⟩, by decide⟩⟩

theorem test_witness_StepKeepsTheInvariant : running.Inv ∧ step running = .next runningNext :=
  ⟨⟨by decide, by decide, by decide⟩, rfl⟩

theorem test_witness_LaunchPremises_PowerOnLaunch :
    (∃ s, launch (List.replicate 0x100 0x00#8) (List.replicate 0x14D 0x00#8) Params.default (Start.powerOn zeroStart) =
      .ok s) ∧ (Start.powerOn zeroStart).ppu.Ok := by
  refine ⟨?_, by decide⟩
  have h : launchError (List.replicate 0x100 0x00#8) (List.replicate 0x14D 0x00#8) = none := by decide +kernel
  unfold launchError at h
  cases hl : launch (List.replicate 0x100 0x00#8) (List.replicate 0x14D 0x00#8) Params.default (Start.powerOn zeroStart) with
  | ok s => exact ⟨s, rfl⟩
  | error e => rw [hl] at h; cases h

theorem test_witness_ResetIsPowerOn :
    (List.replicate 0x100 0x00#8).length = 0x100 ∧ (List.replicate 0x8000 0x00#8).length = 0x8000 ∧
      ∀ v ∈ List.replicate 0x100 0x00#8 ++ List.replicate 0x8000 0x00#8, v = 0 := by
  refine ⟨List.length_replicate, List.length_replicate, fun v h => ?_⟩
  rcases List.mem_append.mp h with h | h <;> exact List.eq_of_mem_replicate h

theorem test_witness_LaunchNeverChanges_BootLatch :
    Reaches running runningNext ∧ running.bootOff = true ∧ booting.bootOff = false ∧
      (∃ t, exec (.ldhA8A 0x50#8) booting = .next t) ∧ 0xFF51#16 ≠ 0xFF50#16 ∧ 0x0100 ≤ (0x0100#16).toNat :=
  ⟨.step (.here running) rfl, rfl, rfl, ⟨_, rfl⟩, by decide, by decide⟩

theorem test_witness_RunEndsAtEndPc :
    runTo 0x0151#16 1 running = .ended runningNext ∧ (running.haltedBy = .none ∧ running.pc = 0x0150#16) ∧
      (running.pc ≠ 0x0151#16 ∧ step running = .next runningNext) ∧
      (∃ f, step { shortRom 0x4000 [] with pc := 0x4000#16 } = .fault f ∧
        runTo 0x0151#16 1 { shortRom 0x4000 [] with pc := 0x4000#16 } = .fault f) ∧
      ({ shortRom 0x4000 [] with pc := 0x4000#16 } : State).pc ≠ 0x0151#16 ∧
      (∃ r, step (refusing [0x76#8]) = .refused r ∧ runTo 0x0151#16 1 (refusing [0x76#8]) = .refused r) ∧
      (refusing [0x76#8]).pc ≠ 0x0151#16 :=
  ⟨rfl, ⟨rfl, rfl⟩, ⟨by decide, rfl⟩, ⟨_, rfl, rfl⟩, by decide, ⟨_, rfl, rfl⟩, by decide⟩

/-- The host's stop of a run with no step and with one step, and the two kinds of halted start, with no step left. -/
theorem test_witness_RunEndsAtEndPc_host_and_halted :
    runTo 0x0152#16 0 running = .stoppedByHost running ∧ runTo 0x0152#16 1 running = .stoppedByHost runningNext ∧
      (let s : State := { running with haltedBy := .fault (.cartRange 0x4000#16) }
       s.haltedBy ≠ .none ∧ step s = .fault (.cartRange 0x4000#16 s) ∧
         runTo 0x0152#16 0 s = .fault (.cartRange 0x4000#16 s)) ∧
      (let s : State := { running with haltedBy := .refused (.unboundOpcode 0x76#8) }
       s.haltedBy ≠ .none ∧ step s = .refused (.unboundOpcode 0x76#8 s) ∧
         runTo 0x0150#16 0 s = .refused (.unboundOpcode 0x76#8 s)) :=
  ⟨rfl, rfl, ⟨by decide, rfl, rfl⟩, ⟨by decide, rfl, rfl⟩⟩

theorem test_witness_FullRomMachineNeverStops :
    running.haltedBy = .none ∧ 0x8000 ≤ running.launch.romSize ∧ running.launch.unboundPolicy = .nop := by decide


end Sys2Proof.Tests
end

/-! PROOFS of the family 10_state. First the layer the proofs share: what an instruction that goes on leaves, by its
rule; what fetching hands on; and what the PPU's loop keeps. -/

namespace Sys2Proof.Machine

open Sys2Proof.Claims

/-! ### What an instruction leaves, by its rule -/

/-- What reading the data byte of a rule hands on: the byte and the state after the read. A rule that reads no data is
handed any byte, which it does not look at. -/
inductive DataRead (s : State) : Option Word → Byte → State → Prop where
  | unread (v : Byte) : DataRead s none v s
  | byte {w : Word} {v : Byte} (h : busRead s w = .byte v) : DataRead s (some w) v s
  | draw {w : Word} (h : busRead s w = .draw) :
      DataRead s (some w) (Config.drawByte s.draws) { s with draws := s.draws + 1 }

/-- A data read changes at most the counter of draws. -/
theorem DataRead.state_eq {s u : State} {a : Option Word} {v : Byte} (h : DataRead s a v u) :
    ∃ n, u = { s with draws := n } := by
  cases h with
  | unread | byte => exact ⟨s.draws, rfl⟩
  | draw => exact ⟨_, rfl⟩

/-- A read inside a step goes on with what the data read hands on. -/
theorem DataRead.memRead_eq {s u : State} {w : Word} {v : Byte} (h : DataRead s (some w) v u)
    (k : Byte → State → Out) : memRead s w k = k v u := by
  cases h with
  | byte hb => exact memRead_byte hb k
  | draw hb => exact memRead_draw hb k

/-- A data read hands a byte on, or its address is beyond the ROM. -/
theorem dataRead_or_beyondRom (s : State) (a : Option Word) :
    (∃ v u, DataRead s a v u) ∨ ∃ w, a = some w ∧ busRead s w = .beyondRom := by
  cases a with
  | none => exact .inl ⟨0#8, s, .unread _⟩
  | some w =>
    cases hb : busRead s w with
    | byte v => exact .inl ⟨v, s, .byte hb⟩
    | draw => exact .inl ⟨_, _, .draw hb⟩
    | beyondRom => exact .inr ⟨w, rfl, hb⟩

/-- The state a rule leaves when it goes on, `v` being its data byte and `s` the state after reading it. -/
def afterForm (f : Form) (v : Byte) (s : State) : State :=
  match f with
  | .nop | .stop | .unbound _ => s
  | .ldPairImm p w => s.setPair p w
  | .ldIndA i => (memWrite s (s.indirect i) s.a).afterIndirect i (s.indirect i)
  | .ldAInd i => (s.setReg .a v).afterIndirect i (s.indirect i)
  | .incPair p => s.setPair p (s.pair p + 1#16)
  | .decPair p => s.setPair p (s.pair p - 1#16)
  | .incReg r => (s.setReg r (inc8 s.flags (s.reg r)).res).setFlags (inc8 s.flags (s.reg r)).flags
  | .incMem => (memWrite s (s.pair .hl) (inc8 s.flags v).res).setFlags (inc8 s.flags v).flags
  | .decReg r => (s.setReg r (dec8 s.flags (s.reg r)).res).setFlags (dec8 s.flags (s.reg r)).flags
  | .decMem => (memWrite s (s.pair .hl) (dec8 s.flags v).res).setFlags (dec8 s.flags v).flags
  | .ldRegImm r b => s.setReg r b
  | .ldMemImm b => memWrite s (s.pair .hl) b
  | .ldA16Sp w => memWrite (memWrite s w (lowByte s.sp)) (w + 1#16) (highByte s.sp)
  | .rlca => (s.setReg .a (rotateLeft s.a (s.a.getLsbD 7)).res).setFlags (rotateLeft s.a (s.a.getLsbD 7)).flags
  | .rrca => (s.setReg .a (rotateRight s.a (s.a.getLsbD 0)).res).setFlags (rotateRight s.a (s.a.getLsbD 0)).flags
  | .rla => (s.setReg .a (rotateLeft s.a s.flags.c).res).setFlags (rotateLeft s.a s.flags.c).flags
  | .rra => (s.setReg .a (rotateRight s.a s.flags.c).res).setFlags (rotateRight s.a s.flags.c).flags
  | .addHl p => (s.setPair .hl (addHlResult (s.pair .hl) (s.pair p))).setFlags
      (addHlFlags s.flags (s.pair .hl) (s.pair p))
  | .jr e => { s with pc := jumpTarget s.pc e }
  | .jrCond cc e => { s with pc := if condHolds s.flags cc then jumpTarget s.pc e else s.pc }
  | .daa => (s.setReg .a (daa s.flags s.a).res).setFlags (daa s.flags s.a).flags
  | .cpl => (s.setReg .a (~~~s.a)).setFlags (cplFlags s.flags)
  | .scf => s.setFlags (scfFlags s.flags)
  | .ccf => s.setFlags (ccfFlags s.flags)
  | .ldRegReg r r' => s.setReg r (s.reg r')
  | .ldRegMem r => s.setReg r v
  | .ldMemReg r => memWrite s (s.pair .hl) (s.reg r)
  | .addReg r => addToA (s.reg r) false s
  | .addMem => addToA v false s
  | .adcReg r => addToA (s.reg r) s.flags.c s
  | .adcMem => addToA v s.flags.c s
  | .ldhStore o => memWrite s (zeroPage o) s.a
  | .ldhLoad _ => s.setReg .a v

/-- A rule that reads no data, and is not refused, goes on with the state `afterForm` names. -/
theorem runForm_of_unread {f : Form} {s : State} (v : Byte) (hf : readFrom s f = none)
    (hp : ∀ op, f = .unbound op → s.launch.unboundPolicy = .nop) : runForm f s = .next (afterForm f v s) := by
  cases f with
  | ldAInd | incMem | decMem | ldRegMem | addMem | adcMem | ldhLoad => cases hf
  | jrCond cc e => by_cases h : condHolds s.flags cc <;> simp [runForm, jumpRelativeIf, afterForm, h]
  | unbound op => simp only [runForm, unboundOp, hp op rfl, afterForm]
  | nop | stop | ldPairImm | ldIndA | incPair | decPair | incReg | decReg | ldRegImm | ldMemImm | ldA16Sp | rlca | rrca
  | rla | rra | addHl | jr | daa | cpl | scf | ccf | ldRegReg | ldMemReg | addReg | adcReg | ldhStore => rfl

/-- A rule that reads data reads it once, and then goes on with the state `afterForm` names. -/
theorem runForm_reads {f : Form} {s : State} {w : Word} (hf : readFrom s f = some w) :
    ∃ k, runForm f s = memRead s w k ∧
      ∀ v n, k v { s with draws := n } = .next (afterForm f v { s with draws := n }) := by
  cases f <;> cases hf <;>
    (simp only [runForm, loadAIndirect, incMem, decMem, loadReg, addMem, adcMem, ldhLoad]
     exact ⟨_, rfl, fun _ _ => rfl⟩)

/-- A rule that is not refused goes on, its data read, with the state `afterForm` names. -/
theorem DataRead.runForm_eq {f : Form} {s u : State} {v : Byte} (hd : DataRead s (readFrom s f) v u)
    (hp : ∀ op, f = .unbound op → s.launch.unboundPolicy = .nop) : runForm f s = .next (afterForm f v u) := by
  cases hf : readFrom s f with
  | none => rw [hf] at hd; cases hd; exact runForm_of_unread v hf hp
  | some w =>
    rw [hf] at hd
    obtain ⟨k, hk, hgo⟩ := runForm_reads hf
    obtain ⟨n, rfl⟩ := hd.state_eq
    rw [hk, hd.memRead_eq, hgo]

/-- A rule whose data lies beyond the ROM stops there with nothing changed. -/
theorem runForm_beyondRom {f : Form} {s : State} {w : Word} (hf : readFrom s f = some w)
    (hb : busRead s w = .beyondRom) : runForm f s = faultStop (.cartRange w) s := by
  obtain ⟨k, hk, -⟩ := runForm_reads hf
  rw [hk, memRead_beyondRom hb]

/-- Everything an instruction that goes on can do: read its data byte, and leave the state `afterForm` names. -/
theorem exec_next_iff {i : Instr} {s t : State} :
    exec i s = .next t ↔
      (∀ op, i.form = .unbound op → s.launch.unboundPolicy = .nop) ∧
      ∃ v u, DataRead s (readFrom s i.form) v u ∧ t = afterForm i.form v u := by
  rw [exec_eq_runForm]
  generalize i.form = f
  constructor
  · intro h
    have hp : ∀ op, f = .unbound op → s.launch.unboundPolicy = .nop := by
      rintro op rfl
      cases hu : s.launch.unboundPolicy with
      | nop => rfl
      | refuse => simp [runForm, unboundOp, hu, refuseStop] at h
    rcases dataRead_or_beyondRom s (readFrom s f) with ⟨v, u, hd⟩ | ⟨w, hf, hb⟩
    · exact ⟨hp, v, u, hd, Host.Outcome.next.inj (h.symm.trans (hd.runForm_eq hp))⟩
    · rw [runForm_beyondRom hf hb] at h
      exact absurd h (by simp [faultStop])
  · rintro ⟨hp, v, u, hd, rfl⟩
    exact hd.runForm_eq hp

/-- An instruction that goes on leaves what its rule does to the state, but for the counter of draws. -/
theorem exec_next_afterForm {i : Instr} {s t : State} (h : exec i s = .next t) :
    ∃ v n, t = afterForm i.form v { s with draws := n } := by
  obtain ⟨-, v, u, hd, rfl⟩ := exec_next_iff.mp h
  obtain ⟨n, rfl⟩ := hd.state_eq
  exact ⟨v, n, rfl⟩

/-- What every write to a register, a pair, the flags or PC keeps, and every store to an address the rule stores to,
the rule keeps. -/
theorem afterForm_induction {P : State → Prop} (f : Form) (v : Byte) (s : State)
    (hreg : ∀ t r b, P t → P (t.setReg r b)) (hpair : ∀ t p w, P t → P (t.setPair p w))
    (hflags : ∀ t g, P t → P (t.setFlags g)) (hpc : ∀ t w, P t → P { t with pc := w })
    (hwrite : ∀ t w b, w ∈ storedTo s f → P t → P (memWrite t w b)) (h : P s) : P (afterForm f v s) := by
  have hind : ∀ t i w, P t → P (t.afterIndirect i w) := by
    intro t i w ht
    cases i with
    | bc | de => exact ht
    | hli => exact hpair t .hl _ ht
    | hld => exact hpair t .hl _ ht
  cases f with
  | nop | stop | unbound => exact h
  | ldPairImm | incPair | decPair => exact hpair _ _ _ h
  | addHl => exact hflags _ _ (hpair _ _ _ h)
  | ldRegImm | ldRegReg | ldRegMem => exact hreg _ _ _ h
  | ldhLoad => exact hreg s .a v h
  | ldAInd => exact hind _ _ _ (hreg _ _ _ h)
  | incReg | decReg | rlca | rrca | rla | rra | daa | cpl | addReg | addMem | adcReg | adcMem =>
    exact hflags _ _ (hreg _ _ _ h)
  | scf | ccf => exact hflags _ _ h
  | jr | jrCond => exact hpc _ _ h
  | ldIndA => exact hind _ _ _ (hwrite _ _ _ (by simp [storedTo]) h)
  | incMem | decMem => exact hflags _ _ (hwrite _ _ _ (by simp [storedTo]) h)
  | ldMemImm | ldMemReg | ldhStore => exact hwrite _ _ _ (by simp [storedTo]) h
  | ldA16Sp => exact hwrite _ _ _ (by simp [storedTo]) (hwrite _ _ _ (by simp [storedTo]) h)

/-- No rule changes the PPU, the launch or the mark. -/
theorem afterForm_machine (f : Form) (v : Byte) (s : State) :
    (afterForm f v s).ppu = s.ppu ∧ (afterForm f v s).launch = s.launch ∧ (afterForm f v s).haltedBy = s.haltedBy :=
  afterForm_induction (P := fun t => t.ppu = s.ppu ∧ t.launch = s.launch ∧ t.haltedBy = s.haltedBy) f v s
    (fun t r b => by simp) (fun t p w => by simp) (fun t g => by simp) (fun t w => id) (fun t w b _ => by simp)
    ⟨rfl, rfl, rfl⟩

/-- An instruction that goes on changes neither the PPU nor the launch nor the mark. -/
theorem exec_next_machine {i : Instr} {s t : State} (h : exec i s = .next t) :
    t.ppu = s.ppu ∧ t.launch = s.launch ∧ t.haltedBy = s.haltedBy := by
  obtain ⟨v, n, rfl⟩ := exec_next_afterForm h
  exact afterForm_machine _ _ _

/-! ### Fetching and stepping, from the bytes fetched -/

/-- The first byte a state fetches is the only one it can. -/
theorem Fetches.head_eq {s u u' : State} {v v' : Byte} {vs vs' : List Byte} (h : Fetches s (v :: vs) u)
    (h' : Fetches s (v' :: vs') u') : v = v' := by
  rcases h with ⟨hb, -⟩ | ⟨hb, rfl, -⟩ <;> rcases h' with ⟨hb', -⟩ | ⟨hb', rfl, -⟩ <;> simp_all

/-- Fetching as many bytes as were fetched hands those bytes on. -/
theorem Fetches.fetchBytes_eq {s u : State} {vs : List Byte} (h : Fetches s vs u)
    (k : List Byte → State → Out) : fetchBytes vs.length s k = k vs u := by
  induction vs generalizing s k with
  | nil => cases h; rfl
  | cons v vs ih =>
    obtain ⟨t, hv, hs⟩ := h.uncons
    rw [List.length_cons, fetchBytes, hv.fetch8_eq, ih hs]

/-- A running machine that fetches a whole instruction runs it and then advances the PPU. -/
theorem Fetches.step_eq {s u : State} {op : Byte} {operands : List Byte} (h : Fetches s (op :: operands) u)
    (hr : s.haltedBy = .none) (hl : operands.length = operandCount s.launch.stopLength op) :
    step s = finishStep (stepCost (decodeOperands op operands) u) (exec (decodeOperands op operands) u) := by
  obtain ⟨t, hop, hs⟩ := h.uncons
  rw [step_running hr, runStep, fetchInstr, hop.fetch8_eq, hop.launch_eq, ← hl, hs.fetchBytes_eq]

/-! ### The PPU and the rest of the machine -/

/-- The state with another PPU. -/
def State.withPpu (s : State) (p : Ppu) : State := { s with ppu := p }

section withPpu

variable (s : State) (p : Ppu)

@[simp] theorem State.withPpu_a : (s.withPpu p).a = s.a := rfl
@[simp] theorem State.withPpu_flags : (s.withPpu p).flags = s.flags := rfl
@[simp] theorem State.withPpu_sp : (s.withPpu p).sp = s.sp := rfl
@[simp] theorem State.reg_withPpu (r : Reg8) : (s.withPpu p).reg r = s.reg r := by cases r <;> rfl
@[simp] theorem State.pair_withPpu (q : Pair) : (s.withPpu p).pair q = s.pair q := by cases q <;> rfl
@[simp] theorem State.indirect_withPpu (i : Indirect) : (s.withPpu p).indirect i = s.indirect i := by cases i <;> rfl

@[simp] theorem State.setReg_withPpu (r : Reg8) (v : Byte) :
    (s.withPpu p).setReg r v = (s.setReg r v).withPpu p := by cases r <;> rfl

@[simp] theorem State.setPair_withPpu (q : Pair) (w : Word) :
    (s.withPpu p).setPair q w = (s.setPair q w).withPpu p := by cases q <;> rfl

@[simp] theorem State.setFlags_withPpu (f : Flags) : (s.withPpu p).setFlags f = (s.setFlags f).withPpu p := rfl

@[simp] theorem State.afterIndirect_withPpu (i : Indirect) (w : Word) :
    (s.withPpu p).afterIndirect i w = (s.afterIndirect i w).withPpu p := by cases i <;> rfl

@[simp] theorem memWrite_withPpu (w : Word) (v : Byte) :
    memWrite (s.withPpu p) w v = (memWrite s w v).withPpu p := by
  unfold memWrite
  cases region w with
  | extRam => by_cases h : w.toNat - 0xA000 < s.launch.extRamSize <;> simp [State.withPpu, h]
  | io => by_cases h : w = 0xFF50#16 <;> simp [State.withPpu, h]
  | bootOverlay | cartRom | vram | wram | echo | oam | unusable | hram | ie => rfl

/-- The PPU plays no part in what a rule leaves. -/
theorem afterForm_withPpu (f : Form) (v : Byte) :
    afterForm f v (s.withPpu p) = (afterForm f v s).withPpu p := by
  cases f with
  | jr | jrCond => rfl
  | _ => simp [afterForm, addToA]

theorem readFrom_withPpu (f : Form) : readFrom (s.withPpu p) f = readFrom s f := by
  cases f <;> simp [readFrom]

end withPpu

/-- With VRAM blocking off no read looks at the PPU. -/
theorem busRead_withPpu {s : State} (hb : s.launch.vramBlocking = false) (p : Ppu) (w : Word) :
    busRead (s.withPpu p) w = busRead s w := by
  have : vramBlocked (s.withPpu p) = vramBlocked s := by simp [vramBlocked, State.withPpu, hb]
  simp only [busRead, this]
  rfl

theorem DataRead.withPpu {s u : State} {a : Option Word} {v : Byte} (h : DataRead s a v u)
    (hb : s.launch.vramBlocking = false) (p : Ppu) : DataRead (s.withPpu p) a v (u.withPpu p) := by
  cases h with
  | unread => exact .unread v
  | byte h => exact .byte ((busRead_withPpu hb p _).trans h)
  | draw h => exact .draw ((busRead_withPpu hb p _).trans h)

/-- With VRAM blocking off an instruction goes on alike whatever the PPU is. -/
theorem exec_next_withPpu {i : Instr} {s t : State} (h : exec i s = .next t)
    (hb : s.launch.vramBlocking = false) (p : Ppu) : exec i (s.withPpu p) = .next (t.withPpu p) := by
  obtain ⟨hp, v, u, hd, rfl⟩ := exec_next_iff.mp h
  refine exec_next_iff.mpr ⟨hp, v, u.withPpu p, ?_, (afterForm_withPpu u p _ v).symm⟩
  rw [readFrom_withPpu]
  exact hd.withPpu hb p

/-- With VRAM blocking off the same bytes are fetched whatever the PPU is. -/
theorem Fetches.withPpu {s u : State} {vs : List Byte} (h : Fetches s vs u)
    (hb : s.launch.vramBlocking = false) (p : Ppu) : Fetches (s.withPpu p) vs (u.withPpu p) := by
  induction vs generalizing s with
  | nil => cases h; rfl
  | cons v vs ih =>
    rcases h with ⟨hr, h⟩ | ⟨hr, hv, h⟩
    · exact .inl ⟨(busRead_withPpu hb p _).trans hr, ih h hb⟩
    · exact .inr ⟨(busRead_withPpu hb p _).trans hr, hv, ih h hb⟩

/-- Settles O51: both steps fetch the same bytes, run the same instruction and leave the same state but for the PPU. -/
theorem ppuIsInvisibleWithoutBlocking : Obligations.PpuIsInvisibleWithoutBlocking := by
  intro s t p hb h
  obtain ⟨hr, op, operands, u, v, hf, hl, he, rfl⟩ := step_next h
  have hstep : step (s.withPpu p) = _ := (hf.withPpu hb p).step_eq hr hl
  rw [exec_next_withPpu he (hf.launch_eq ▸ hb) p] at hstep
  exact ⟨_, hstep⟩

/-! ### The invariant of launched machines -/

/-- Every rule keeps the stores canonical and within their sizes. -/
theorem storesOk_afterForm {s : State} (f : Form) (v : Byte) (h : s.StoresOk) : (afterForm f v s).StoresOk :=
  afterForm_induction f v s (fun t r b ht => by cases r <;> exact ht) (fun t p w ht => by cases p <;> exact ht)
    (fun _ _ => id) (fun _ _ => id) (fun _ w b _ => storesOk_memWrite w b) h

/-- The PPU's line is 144 exactly in VBLANK, else below 144. -/
def Ppu.LineOk (p : Ppu) : Prop :=
  if p.mode = .vblank then p.line = Config.visibleLines else p.line < Config.visibleLines

theorem Ppu.LineOk.transition {p : Ppu} (h : p.LineOk) : p.transition.LineOk := by
  obtain ⟨mode, clock, line, total⟩ := p
  cases mode with
  | oamScan | vramAccess => exact h
  | hblank =>
    have hl : line < Config.visibleLines := h
    by_cases he : line + 1 = Config.visibleLines
    · simp [Ppu.transition, Ppu.LineOk, he]
    · simp only [Ppu.transition, Ppu.LineOk, he, if_false, reduceCtorEq]
      omega
  | vblank => exact Nat.zero_lt_succ _

theorem Ppu.LineOk.settle {p : Ppu} (h : p.LineOk) (n : Nat) : (Ppu.settle n p).LineOk := by
  induction n generalizing p with
  | zero => exact h
  | succ n ih =>
    unfold Ppu.settle
    split
    · exact ih (Ppu.LineOk.transition h)
    · exact h

/-- The PPU's advance keeps the mode clock below its budget and the line in range. -/
theorem Ppu.Ok.cycle {p : Ppu} (h : p.Ok) (t : Nat) : (p.cycle t).Ok := by
  have hl : Ppu.LineOk { p with modeClock := p.modeClock + (t - p.total), total := t } := h.2
  exact ⟨Ppu.settle_done le_rfl, hl.settle _⟩

/-- Settles O52: fetching and the PPU's advance touch no store, and each rule stores through `memWrite` only. -/
theorem stepKeepsTheInvariant : Obligations.StepKeepsTheInvariant := by
  rintro s t ⟨hs, hl, hp⟩ h
  obtain ⟨-, op, operands, u, v, hf, -, he, rfl⟩ := step_next h
  obtain ⟨hppu, hlaunch, -⟩ := exec_next_machine he
  have hu := hf.state_eq
  refine ⟨?_, ?_, ?_⟩
  · obtain ⟨b, n, rfl⟩ := exec_next_afterForm he
    exact storesOk_afterForm (s := { u with draws := n }) _ _ (by rw [hu]; exact hs)
  · rw [advancePpu_launch, hlaunch, hu]
    exact hl
  · rw [advancePpu_ppu, hppu, hu]
    exact hp.cycle _

/-! ### What a rule leaves unchanged of the registers and the flags -/

theorem State.reg_setPair_other (s : State) {p : Pair} {r : Reg8} (w : Word) (h : r ∉ pairRegs p) :
    (s.setPair p w).reg r = s.reg r := by
  cases p with
  | bc => cases r with
    | b | c => simp [pairRegs] at h
    | d | e | h | l | a => rfl
  | de => cases r with
    | d | e => simp [pairRegs] at h
    | b | c | h | l | a => rfl
  | hl => cases r with
    | h | l => simp [pairRegs] at h
    | b | c | d | e | a => rfl
  | sp => cases r <;> rfl

theorem State.reg_afterIndirect_other (s : State) {i : Indirect} {r : Reg8} (w : Word) (h : r ∉ indirectRegs i) :
    (s.afterIndirect i w).reg r = s.reg r := by
  cases i with
  | bc | de => rfl
  | hli | hld => exact s.reg_setPair_other (p := .hl) _ h

theorem State.sp_setPair_other (s : State) {p : Pair} (w : Word) (h : p ≠ .sp) : (s.setPair p w).sp = s.sp := by
  cases p with
  | bc | de | hl => rfl
  | sp => exact absurd rfl h

/-- A rule changes no byte register but its destinations. -/
theorem reg_afterForm {f : Form} {r : Reg8} (v : Byte) (s : State) (h : r ∉ destRegs f) :
    (afterForm f v s).reg r = s.reg r := by
  cases f with
  | ldPairImm | incPair | decPair => exact s.reg_setPair_other _ h
  | addHl => exact s.reg_setPair_other (p := .hl) _ h
  | ldIndA i => exact (State.reg_afterIndirect_other _ _ h).trans (memWrite_reg _ _ _ _)
  | ldAInd i =>
    obtain ⟨ha, hi⟩ := not_or.mp (mt List.mem_cons.mpr h)
    exact (State.reg_afterIndirect_other _ _ hi).trans (s.reg_setReg_other v ha)
  | incReg | decReg | rlca | rrca | rla | rra | daa | cpl | addReg | addMem | adcReg | adcMem =>
    exact (State.reg_setFlags _ _ _).trans (s.reg_setReg_other _ (List.ne_of_not_mem_cons h))
  | ldRegImm | ldRegReg | ldRegMem => exact s.reg_setReg_other _ (List.ne_of_not_mem_cons h)
  | ldhLoad => exact s.reg_setReg_other v (List.ne_of_not_mem_cons h)
  | nop | stop | incMem | decMem | ldMemImm | ldA16Sp | jr | jrCond | scf | ccf | ldMemReg | ldhStore | unbound =>
    cases r <;> simp [afterForm, State.reg]

/-- A rule that does not write SP leaves it. -/
theorem sp_afterForm {f : Form} (v : Byte) (s : State) (h : writesSp f = false) : (afterForm f v s).sp = s.sp := by
  cases f with
  | ldPairImm | incPair | decPair => exact s.sp_setPair_other _ (of_decide_eq_false h)
  | addHl p => exact s.sp_setPair_other (addHlResult (s.pair .hl) (s.pair p)) (by decide : Pair.hl ≠ .sp)
  | _ => simp [afterForm, addToA]

/-- Only a relative jump moves PC beyond the fetches. -/
theorem pc_afterForm {f : Form} (v : Byte) (s : State) (h : isJump f = false) : (afterForm f v s).pc = s.pc := by
  cases f with
  | jr | jrCond => cases h
  | _ => simp [afterForm, addToA]

/-- `g` differs from `f` at most in the flags `w` marks. -/
def Flags.AgreeOutside (w f g : Flags) : Prop :=
  (w.z = false → g.z = f.z) ∧ (w.n = false → g.n = f.n) ∧ (w.h = false → g.h = f.h) ∧ (w.c = false → g.c = f.c)

/-- A rule changes no flag but those it writes. -/
theorem flags_afterForm (f : Form) (v : Byte) (s : State) :
    (flagsWritten f).AgreeOutside s.flags (afterForm f v s).flags := by
  cases f with
  | daa => cases hn : s.flags.n <;> simp [Flags.AgreeOutside, flagsWritten, afterForm, Machine.daa, hn]
  | _ =>
    simp [Flags.AgreeOutside, flagsWritten, afterForm, addToA, inc8, dec8, addHlFlags, cplFlags, scfFlags, ccfFlags]

/-- Settles O14: the frame of what the instruction's rule leaves, one clause each. -/
theorem registerAndFlagFrame : Obligations.RegisterAndFlagFrame := by
  intro i s t h
  have hm := exec_next_machine h
  obtain ⟨v, n, rfl⟩ := exec_next_afterForm h
  obtain ⟨hz, hn, hh, hc⟩ := flags_afterForm i.form v { s with draws := n }
  exact ⟨fun r hr => (reg_afterForm v _ hr).trans (by cases r <;> rfl), sp_afterForm v _, pc_afterForm v _,
    hz, hn, hh, hc, hm⟩

/-- Settles O11: fetching moves PC past the bytes, and a rule that is no relative jump leaves it there. -/
theorem pcMovesPastTheInstruction : Obligations.PcMovesPastTheInstruction := by
  intro s t u op hop hj h
  obtain ⟨-, op', operands, w, v, hf, hl, he, rfl⟩ := step_next h
  obtain rfl := hop.head_eq hf
  obtain ⟨b, n, rfl⟩ := exec_next_afterForm he
  calc (afterForm _ b { w with draws := n }).pc
    _ = w.pc := pc_afterForm b _ (hj _ _)
    _ = s.pc + BitVec.ofNat 16 (operandCount s.launch.stopLength op + 1) := by
      rw [hf.state_eq, List.length_cons, hl]
    _ = s.pc + 1#16 + BitVec.ofNat 16 (operandCount s.launch.stopLength op) := by
      rw [BitVec.add_assoc, Nat.add_comm, BitVec.ofNat_add]

/-! ### The boot latch -/

/-- A bus write sets the latch exactly at 0xFF50. -/
theorem memWrite_bootOff (s : State) (w : Word) (v : Byte) :
    (memWrite s w v).bootOff = (s.bootOff || decide (0xFF50#16 = w)) := by
  by_cases hw : 0xFF50#16 = w
  · subst hw
    simp [memWrite, region]
  · unfold memWrite
    cases region w with
    | io => simp [hw, Ne.symm hw]
    | extRam => dsimp only; split <;> simp [hw]
    | bootOverlay | cartRom | vram | wram | echo | oam | unusable | hram | ie => simp [hw]

/-- A rule sets the latch exactly when it stores to 0xFF50. -/
theorem afterForm_bootOff (f : Form) (v : Byte) (s : State) :
    (afterForm f v s).bootOff = (s.bootOff || decide (0xFF50#16 ∈ storedTo s f)) := by
  cases f <;> simp [afterForm, addToA, storedTo, memWrite_bootOff, Bool.or_assoc]

theorem storedTo_setDraws (s : State) (n : Nat) (f : Form) : storedTo { s with draws := n } f = storedTo s f := by
  cases f <;> rfl

/-- An instruction that goes on sets the latch exactly when it stores to 0xFF50. -/
theorem exec_next_bootOff {i : Instr} {s t : State} (h : exec i s = .next t) :
    t.bootOff = (s.bootOff || decide (0xFF50#16 ∈ storedTo s i.form)) := by
  obtain ⟨v, n, rfl⟩ := exec_next_afterForm h
  rw [afterForm_bootOff, storedTo_setDraws]

/-- A step does not clear the latch. -/
theorem step_next_bootOff {s t : State} (h : step s = .next t) (hs : s.bootOff = true) : t.bootOff = true := by
  obtain ⟨-, op, operands, u, v, hf, -, he, rfl⟩ := step_next h
  have hu : u.bootOff = true := by rw [hf.state_eq]; exact hs
  rw [advancePpu_bootOff, exec_next_bootOff he, hu, Bool.true_or]

/-- No read of 0x0100 or above looks at the latch. -/
theorem busRead_bootOff {w : Word} (s : State) (off : Bool) (hw : 0x0100 ≤ w.toNat) :
    busRead { s with bootOff := off } w = busRead s w := by
  have hr : region w ≠ .bootOverlay := by
    intro h
    have hb := (region_bounds w).2
    rw [h] at hb
    simp only [Region.bounds] at hb
    omega
  unfold busRead
  cases h : region w with
  | bootOverlay => exact absurd h hr
  | cartRom | vram | extRam | wram | echo | oam | unusable | io | hram | ie => rfl

/-- Settles O58: the latch equations of a bus write, an instruction and a step, and induction along the run. -/
theorem bootLatchIsPermanent : Obligations.BootLatchIsPermanent := by
  refine ⟨rfl, fun s v => ?_, fun s a v ha => ?_, fun s t hs hr => ?_, fun i s t h hs => ?_,
    fun s _ off => busRead_bootOff s off⟩
  · simp [memWrite, region]
  · simp [memWrite_bootOff, ha.symm]
  · induction hr with
    | here => exact hs
    | step _ hnext ih => exact step_next_bootOff hnext ih
  · rw [exec_next_bootOff h, hs, Bool.false_or, decide_eq_true_iff]

/-! ### The halted machine -/

/-- Settles O7: by the value of the mark. -/
theorem haltedMachineTakesNoStep : Obligations.HaltedMachineTakesNoStep := by
  intro s
  refine ⟨fun addr h => ?_, fun h => ?_, fun h => ?_, fun op h => ?_⟩ <;> simp [step, systemStep, h, faultOf]

/-! ### Writing registers, pairs and F -/

@[simp] theorem State.pair_setPair_same (s : State) (p : Pair) (w : Word) : (s.setPair p w).pair p = w := by
  cases p with
  | bc | de | hl => exact wordOf_bytes w
  | sp => rfl

theorem State.pair_setPair_other (s : State) {p q : Pair} (w : Word) (h : q ≠ p) :
    (s.setPair p w).pair q = s.pair q := by
  cases p with
  | bc => cases q with
    | bc => exact absurd rfl h
    | de | hl | sp => rfl
  | de => cases q with
    | de => exact absurd rfl h
    | bc | hl | sp => rfl
  | hl => cases q with
    | hl => exact absurd rfl h
    | bc | de | sp => rfl
  | sp => cases q with
    | sp => exact absurd rfl h
    | bc | de | hl => rfl

/-- Settles O12: by the register or the pair written. -/
theorem registerFileWrites : Obligations.RegisterFileWrites := by
  refine ⟨fun s r v => ⟨s.reg_setReg_same r v, fun q hq => s.reg_setReg_other v hq, ?_⟩,
    fun s => ⟨rfl, rfl, rfl, rfl⟩,
    fun s p v => ⟨s.pair_setPair_same p v, fun q hq => s.pair_setPair_other v hq,
      fun r hr => s.reg_setPair_other v hr, ?_⟩, toNat_wordOf⟩
  · cases r <;> rfl
  · cases p <;> rfl

theorem Flags.byte_layout (f : Flags) :
    f.byte.getLsbD 7 = f.z ∧ f.byte.getLsbD 6 = f.n ∧ f.byte.getLsbD 5 = f.h ∧ f.byte.getLsbD 4 = f.c ∧
      f.byte &&& 0x0F#8 = 0x00#8 := by
  obtain ⟨z, n, h, c⟩ := f
  cases z <;> cases n <;> cases h <;> cases c <;> decide

/-- A byte written to F reads back as its upper four bits. -/
theorem Flags.byte_ofByte (v : Byte) : (Flags.ofByte v).byte = v &&& 0xF0#8 := by
  revert v
  decide

/-- Settles O13: AF by its two bytes, its mask split as they are. -/
theorem flagByteLayout : Obligations.FlagByteLayout := by
  intro s
  refine ⟨s.flags.byte_layout, rfl, fun v => ⟨Flags.byte_ofByte v, rfl⟩, fun v => ⟨?_, rfl⟩⟩
  calc wordOf (highByte v) (Flags.ofByte (lowByte v)).byte
    _ = wordOf (highByte v &&& 0xFF#8) (lowByte v &&& 0xF0#8) := by
      rw [Flags.byte_ofByte, show highByte v &&& 0xFF#8 = highByte v from BitVec.and_allOnes]
    _ = wordOf (highByte v) (lowByte v) &&& wordOf 0xFF#8 0xF0#8 := BitVec.and_append.symm
    _ = v &&& 0xFFF0#16 := by rw [wordOf_bytes]; rfl

end Sys2Proof.Machine

/-! PROOFS of the family 20_memory. First the layer the proofs share: what a bus read gives and a bus write does in each
region of the address map, what a bus write leaves unchanged, and what an instruction leaves of the memory. -/

namespace Sys2Proof.Machine

open Sys2Proof.Claims

/-! ### The address map -/

theorem region_eq_iff {w : Word} {r : Region} : region w = r ↔ r.bounds.1 ≤ w.toNat ∧ w.toNat ≤ r.bounds.2 :=
  ⟨fun h => h ▸ region_bounds w, region_of_bounds⟩

theorem region_ne_of_outside {w : Word} {r : Region} (h : w.toNat < r.bounds.1 ∨ r.bounds.2 < w.toNat) :
    region w ≠ r := fun hr => by
  obtain ⟨hlo, hhi⟩ := region_eq_iff.mp hr
  omega

/-- Settles O40: an address lies in a region exactly when it is within its bounds. -/
theorem addressMap : Obligations.AddressMap := fun a =>
  have hmax : a.toNat ≤ 0xFFFF := Nat.le_of_lt_succ a.isLt
  ⟨region_eq_iff.trans (and_iff_right (Nat.zero_le _)), region_eq_iff, region_eq_iff, region_eq_iff, region_eq_iff,
    region_eq_iff, region_eq_iff, region_eq_iff, region_eq_iff, region_eq_iff,
    region_eq_iff.trans ⟨fun h => Nat.le_antisymm hmax h.1, fun h => ⟨h.ge, hmax⟩⟩⟩

/-- Work RAM and its echo are one range of addresses. -/
theorem region_workRam_iff {w : Word} :
    region w = .wram ∨ region w = .echo ↔ 0xC000 ≤ w.toNat ∧ w.toNat ≤ 0xFDFF := by
  rw [region_eq_iff, region_eq_iff]
  simp only [Region.bounds]
  omega

/-- The ROM window is the boot overlay and the rest of the cartridge. -/
theorem region_romWindow_iff {w : Word} : region w = .bootOverlay ∨ region w = .cartRom ↔ w.toNat ≤ 0x7FFF := by
  rw [region_eq_iff, region_eq_iff]
  simp only [Region.bounds]
  omega

theorem unecho_of_not_echo {w : Word} (h : region w ≠ .echo) : unecho w = w := if_neg h

theorem wram_offset {w : Word} (h : region w = .wram) : (w.toNat - 0xC000) % 0x2000 = w.toNat - 0xC000 := by
  obtain ⟨-, hhi⟩ : _ ∧ w.toNat ≤ 0xDFFF := region_eq_iff.mp h
  exact Nat.mod_eq_of_lt (by omega)

theorem echo_offset {w : Word} (h : region w = .echo) : (w.toNat - 0xC000) % 0x2000 = w.toNat - 0xE000 := by
  obtain ⟨hlo, hhi⟩ : 0xE000 ≤ w.toNat ∧ w.toNat ≤ 0xFDFF := region_eq_iff.mp h
  omega

/-- An address of work RAM or of its echo names the work RAM byte at its offset modulo the store's size. -/
theorem toNat_unecho {w : Word} (h : region w = .wram ∨ region w = .echo) :
    (unecho w).toNat = 0xC000 + (w.toNat - 0xC000) % 0x2000 := by
  rcases h with h | h
  · have hlo : 0xC000 ≤ w.toNat := (region_eq_iff.mp h).1
    rw [unecho_of_not_echo (by rw [h]; decide), wram_offset h]
    omega
  · have hlo : 0xE000 ≤ w.toNat := (region_eq_iff.mp h).1
    rw [unecho, if_pos h, echo_offset h, BitVec.toNat_sub_of_le (BitVec.le_def.mpr (Nat.le_trans (by decide) hlo))]
    simp only [BitVec.toNat_ofNat]
    omega

/-- Two addresses from `lo` on have two offsets from it. -/
theorem offset_ne {b w : Word} {lo : Nat} (hb : lo ≤ b.toNat) (hw : lo ≤ w.toNat) (h : b ≠ w) :
    b.toNat - lo ≠ w.toNat - lo := fun he => h (BitVec.eq_of_toNat_eq (by omega))

/-- Two addresses of work RAM or its echo that name two bytes have two offsets in the store. -/
theorem workRam_offset_ne {b w : Word} (hb : region b = .wram ∨ region b = .echo)
    (hw : region w = .wram ∨ region w = .echo) (h : unecho b ≠ unecho w) :
    (b.toNat - 0xC000) % 0x2000 ≠ (w.toNat - 0xC000) % 0x2000 := fun he => h <| BitVec.eq_of_toNat_eq <| by
  rw [toNat_unecho hb, toNat_unecho hw, he]

/-! ### What a bus read gives, by region -/

section busRead

variable {s : State} {w : Word}

theorem busRead_of_bootRom (h : region w = .bootOverlay) (hs : s.bootOff = false) :
    busRead s w = .byte (Memory.read s.launch.bootRom w.toNat) := by
  simp [busRead, h, hs]

theorem busRead_of_cart (h : region w = .bootOverlay ∧ s.bootOff = true ∨ region w = .cartRom) :
    busRead s w = cartRead s w := by
  rcases h with ⟨h, hs⟩ | h
  · simp [busRead, h, hs]
  · simp [busRead, h]

theorem busRead_of_vram (h : region w = .vram) :
    busRead s w = .byte (if vramBlocked s then 0xFF#8 else Memory.read s.vram (w.toNat - 0x8000)) := by
  cases hb : vramBlocked s <;> simp [busRead, h, hb]

theorem busRead_of_extRam (h : region w = .extRam) :
    busRead s w =
      if w.toNat - 0xA000 < s.launch.extRamSize then .byte (Memory.read s.extRam (w.toNat - 0xA000)) else .draw := by
  simp [busRead, h]

theorem busRead_of_workRam (h : region w = .wram ∨ region w = .echo) :
    busRead s w = .byte (Memory.read s.wram ((w.toNat - 0xC000) % 0x2000)) := by
  rcases h with h | h
  · simp [busRead, h, wram_offset h]
  · simp [busRead, h, echo_offset h]

theorem busRead_of_oam (h : region w = .oam) : busRead s w = .byte (Memory.read s.oam (w.toNat - 0xFE00)) := by
  simp [busRead, h]

theorem busRead_of_drawn (h : region w = .unusable ∨ region w = .io) : busRead s w = .draw := by
  rcases h with h | h <;> simp [busRead, h]

theorem busRead_of_hram (h : region w = .hram) : busRead s w = .byte (Memory.read s.hram (w.toNat - 0xFF80)) := by
  simp [busRead, h]

theorem busRead_of_ie (h : region w = .ie) : busRead s w = .byte s.ie := by
  simp [busRead, h]

/-- Only a read of the ROM window at or beyond ROM_SIZE is beyond the ROM. -/
theorem beyondRom_bounds (h : busRead s w = .beyondRom) : w.toNat ≤ 0x7FFF ∧ s.launch.romSize ≤ w.toNat := by
  have hcart : cartRead s w = .beyondRom → s.launch.romSize ≤ w.toNat := by
    unfold cartRead
    split
    · exact fun h => by cases h
    · exact fun _ => by omega
  cases hr : region w with
  | bootOverlay =>
    refine ⟨region_romWindow_iff.mp (.inl hr), hcart ?_⟩
    cases hs : s.bootOff with
    | false => rw [busRead_of_bootRom hr hs] at h; cases h
    | true => rwa [busRead_of_cart (.inl ⟨hr, hs⟩)] at h
  | cartRom => exact ⟨region_romWindow_iff.mp (.inr hr), hcart (by rwa [busRead_of_cart (.inr hr)] at h)⟩
  | extRam => rw [busRead_of_extRam hr] at h; split at h <;> cases h
  | vram => rw [busRead_of_vram hr] at h; cases h
  | wram => rw [busRead_of_workRam (.inl hr)] at h; cases h
  | echo => rw [busRead_of_workRam (.inr hr)] at h; cases h
  | oam => rw [busRead_of_oam hr] at h; cases h
  | unusable => rw [busRead_of_drawn (.inl hr)] at h; cases h
  | io => rw [busRead_of_drawn (.inr hr)] at h; cases h
  | hram => rw [busRead_of_hram hr] at h; cases h
  | ie => rw [busRead_of_ie hr] at h; cases h

end busRead

/-! ### What a bus write does, by region -/

section memWrite

variable {s : State} {w : Word} (v : Byte)

theorem memWrite_of_romWindow (h : region w = .bootOverlay ∨ region w = .cartRom) : memWrite s w v = s := by
  rcases h with h | h <;> simp [memWrite, h]

theorem memWrite_of_vram (h : region w = .vram) :
    memWrite s w v = { s with vram := Memory.write s.vram (w.toNat - 0x8000) v } := by
  simp [memWrite, h]

theorem memWrite_of_extRam_beyond (h : region w = .extRam) (hs : ¬ w.toNat - 0xA000 < s.launch.extRamSize) :
    memWrite s w v = s := by
  simp [memWrite, h, hs]

theorem memWrite_of_workRam (h : region w = .wram ∨ region w = .echo) :
    memWrite s w v = { s with wram := Memory.write s.wram ((w.toNat - 0xC000) % 0x2000) v } := by
  rcases h with h | h
  · simp [memWrite, h, wram_offset h]
  · simp [memWrite, h, echo_offset h]

theorem memWrite_of_unusable (h : region w = .unusable) : memWrite s w v = s := by
  simp [memWrite, h]

theorem memWrite_of_io (h : region w = .io) :
    memWrite s w v = if w = 0xFF50#16 then { s with bootOff := true } else s := by
  simp [memWrite, h]

theorem memWrite_of_ie (h : region w = .ie) : memWrite s w v = { s with ie := v } := by
  simp [memWrite, h]

end memWrite

/-! ### What a bus write leaves in each store -/

section stores

variable (s : State) (w : Word) (v : Byte)

theorem memWrite_vram : (memWrite s w v).vram =
    if region w = .vram then Memory.write s.vram (w.toNat - 0x8000) v else s.vram := by
  unfold memWrite
  cases region w with
  | extRam | io => dsimp only; split <;> rfl
  | _ => rfl

theorem memWrite_extRam : (memWrite s w v).extRam =
    if region w = .extRam ∧ w.toNat - 0xA000 < s.launch.extRamSize then Memory.write s.extRam (w.toNat - 0xA000) v
    else s.extRam := by
  unfold memWrite
  cases region w with
  | extRam => simp only [true_and]; split <;> rfl
  | io => dsimp only; split <;> rfl
  | _ => rfl

theorem memWrite_wram : (memWrite s w v).wram =
    if region w = .wram ∨ region w = .echo then Memory.write s.wram ((w.toNat - 0xC000) % 0x2000) v else s.wram := by
  by_cases h : region w = .wram ∨ region w = .echo
  · rw [if_pos h, memWrite_of_workRam v h]
  · rw [if_neg h]
    unfold memWrite
    cases hr : region w with
    | wram => exact absurd (.inl hr) h
    | echo => exact absurd (.inr hr) h
    | extRam | io => dsimp only; split <;> rfl
    | _ => rfl

theorem memWrite_oam : (memWrite s w v).oam =
    if region w = .oam then Memory.write s.oam (w.toNat - 0xFE00) v else s.oam := by
  unfold memWrite
  cases region w with
  | extRam | io => dsimp only; split <;> rfl
  | _ => rfl

theorem memWrite_hram : (memWrite s w v).hram =
    if region w = .hram then Memory.write s.hram (w.toNat - 0xFF80) v else s.hram := by
  unfold memWrite
  cases region w with
  | extRam | io => dsimp only; split <;> rfl
  | _ => rfl

theorem memWrite_ie : (memWrite s w v).ie = if region w = .ie then v else s.ie := by
  unfold memWrite
  cases region w with
  | extRam | io => dsimp only; split <;> rfl
  | _ => rfl

end stores

/-! ### What a bus write leaves unchanged -/

section untouched

variable {s : State} {w b : Word} (v : Byte)

/-- A write keeps every VRAM byte at another address, also while VRAM reads are blocked. -/
theorem read_vram_memWrite_other (hb : region b = .vram) (h : b ≠ w) :
    Memory.read (memWrite s w v).vram (b.toNat - 0x8000) = Memory.read s.vram (b.toNat - 0x8000) := by
  rw [memWrite_vram]
  split
  next hw => exact Memory.read_write_other _ _ (offset_ne (region_eq_iff.mp hb).1 (region_eq_iff.mp hw).1 h)
  next => rfl

theorem read_extRam_memWrite_other (hb : region b = .extRam) (h : b ≠ w) :
    Memory.read (memWrite s w v).extRam (b.toNat - 0xA000) = Memory.read s.extRam (b.toNat - 0xA000) := by
  rw [memWrite_extRam]
  split
  next hw => exact Memory.read_write_other _ _ (offset_ne (region_eq_iff.mp hb).1 (region_eq_iff.mp hw.1).1 h)
  next => rfl

theorem read_wram_memWrite_other (hb : region b = .wram ∨ region b = .echo) (h : unecho b ≠ unecho w) :
    Memory.read (memWrite s w v).wram ((b.toNat - 0xC000) % 0x2000) =
      Memory.read s.wram ((b.toNat - 0xC000) % 0x2000) := by
  rw [memWrite_wram]
  split
  next hw => exact Memory.read_write_other _ _ (workRam_offset_ne hb hw h)
  next => rfl

theorem read_oam_memWrite_other (hb : region b = .oam) (h : b ≠ w) :
    Memory.read (memWrite s w v).oam (b.toNat - 0xFE00) = Memory.read s.oam (b.toNat - 0xFE00) := by
  rw [memWrite_oam]
  split
  next hw => exact Memory.read_write_other _ _ (offset_ne (region_eq_iff.mp hb).1 (region_eq_iff.mp hw).1 h)
  next => rfl

theorem read_hram_memWrite_other (hb : region b = .hram) (h : b ≠ w) :
    Memory.read (memWrite s w v).hram (b.toNat - 0xFF80) = Memory.read s.hram (b.toNat - 0xFF80) := by
  rw [memWrite_hram]
  split
  next hw => exact Memory.read_write_other _ _ (offset_ne (region_eq_iff.mp hb).1 (region_eq_iff.mp hw).1 h)
  next => rfl

/-- A write leaves what every address it does not touch reads as. -/
theorem busRead_memWrite_untouched (h : Untouched w b) : busRead (memWrite s w v) b = busRead s b := by
  obtain ⟨hbyte, hlatch⟩ := h
  have hne : b ≠ w := fun h => hbyte (congrArg unecho h)
  have hblocked : vramBlocked (memWrite s w v) = vramBlocked s := by simp [vramBlocked]
  have hcart : cartRead (memWrite s w v) b = cartRead s b := by simp [cartRead]
  cases hb : region b with
  | bootOverlay =>
    have hw : ¬ 0xFF50#16 = w := fun hw => by
      obtain ⟨-, hhi⟩ : _ ∧ b.toNat ≤ 0x00FF := region_eq_iff.mp hb
      have := hlatch hw.symm
      omega
    simp [busRead, hb, hcart, memWrite_bootOff, hw]
  | cartRom => rw [busRead_of_cart (.inr hb), busRead_of_cart (.inr hb), hcart]
  | vram => rw [busRead_of_vram hb, busRead_of_vram hb, hblocked, read_vram_memWrite_other v hb hne]
  | extRam => rw [busRead_of_extRam hb, busRead_of_extRam hb, memWrite_launch, read_extRam_memWrite_other v hb hne]
  | wram =>
    rw [busRead_of_workRam (.inl hb), busRead_of_workRam (.inl hb), read_wram_memWrite_other v (.inl hb) hbyte]
  | echo =>
    rw [busRead_of_workRam (.inr hb), busRead_of_workRam (.inr hb), read_wram_memWrite_other v (.inr hb) hbyte]
  | oam => rw [busRead_of_oam hb, busRead_of_oam hb, read_oam_memWrite_other v hb hne]
  | unusable => rw [busRead_of_drawn (.inl hb), busRead_of_drawn (.inl hb)]
  | io => rw [busRead_of_drawn (.inr hb), busRead_of_drawn (.inr hb)]
  | hram => rw [busRead_of_hram hb, busRead_of_hram hb, read_hram_memWrite_other v hb hne]
  | ie =>
    have hw : region w ≠ .ie := fun hw => hne <| BitVec.eq_of_toNat_eq <| by
      obtain ⟨hlo, hhi⟩ : 0xFFFF ≤ b.toNat ∧ b.toNat ≤ 0xFFFF := region_eq_iff.mp hb
      obtain ⟨hlo', hhi'⟩ : 0xFFFF ≤ w.toNat ∧ w.toNat ≤ 0xFFFF := region_eq_iff.mp hw
      omega
    rw [busRead_of_ie hb, busRead_of_ie hb, memWrite_ie, if_neg hw]

end untouched

/-! ### What a bus write is read back as -/

section readBack

variable {s : State} {w : Word} (v : Byte)

theorem busRead_memWrite_vram (hs : s.StoresOk) (h : region w = .vram) (hb : vramBlocked s = false) :
    busRead (memWrite s w v) w = .byte v := by
  obtain ⟨-, ⟨hwf, -⟩, -⟩ := hs
  have hb' : ¬ vramBlocked (memWrite s w v) = true := by simpa [vramBlocked] using hb
  rw [busRead_of_vram h, if_neg hb', memWrite_vram, if_pos h, Memory.read_write_same _ _ hwf]

theorem busRead_memWrite_extRam (hs : s.StoresOk) (h : region w = .extRam)
    (hsize : w.toNat - 0xA000 < s.launch.extRamSize) : busRead (memWrite s w v) w = .byte v := by
  obtain ⟨⟨hwf, -⟩, -⟩ := hs
  rw [busRead_of_extRam h, memWrite_launch, if_pos hsize, memWrite_extRam, if_pos ⟨h, hsize⟩,
    Memory.read_write_same _ _ hwf]

theorem busRead_memWrite_workRam (hs : s.StoresOk) (h : region w = .wram ∨ region w = .echo) :
    busRead (memWrite s w v) w = .byte v := by
  obtain ⟨-, -, ⟨hwf, -⟩, -⟩ := hs
  rw [busRead_of_workRam h, memWrite_wram, if_pos h, Memory.read_write_same _ _ hwf]

theorem busRead_memWrite_oam (hs : s.StoresOk) (h : region w = .oam) : busRead (memWrite s w v) w = .byte v := by
  obtain ⟨-, -, -, ⟨hwf, -⟩, -⟩ := hs
  rw [busRead_of_oam h, memWrite_oam, if_pos h, Memory.read_write_same _ _ hwf]

theorem busRead_memWrite_hram (hs : s.StoresOk) (h : region w = .hram) : busRead (memWrite s w v) w = .byte v := by
  obtain ⟨-, -, -, -, hwf, -⟩ := hs
  rw [busRead_of_hram h, memWrite_hram, if_pos h, Memory.read_write_same _ _ hwf]

end readBack

theorem vramBlocked_eq_false_iff {s : State} :
    vramBlocked s = false ↔ s.launch.vramBlocking = false ∨ s.ppu.mode ≠ .vramAccess := by
  rw [vramBlocked, Bool.and_eq_false_iff, decide_eq_false_iff_not]

/-- Settles O43: each store's read-back, the region of the address from its bounds. -/
theorem storesReadBackWhatWasWritten : Obligations.StoresReadBackWhatWasWritten := by
  refine ⟨fun s a b v => busRead_memWrite_untouched v, fun s a v hs => ⟨fun hlo hhi hb => ?_, fun hlo hhi hsize => ?_,
    fun hlo hhi hsize => ?_, fun hlo hhi => ?_, fun hlo hhi => ?_, fun hlo hhi => ?_, fun h => ?_⟩⟩
  · exact busRead_memWrite_vram v hs (region_of_bounds ⟨hlo, hhi⟩) (vramBlocked_eq_false_iff.mpr hb)
  · exact busRead_memWrite_extRam v hs (region_of_bounds ⟨hlo, hhi⟩) (by omega)
  · have hr : region a = .extRam := region_of_bounds ⟨hlo, hhi⟩
    have hbeyond : ¬ a.toNat - 0xA000 < s.launch.extRamSize := by omega
    exact ⟨memWrite_of_extRam_beyond v hr hbeyond, by rw [busRead_of_extRam hr, if_neg hbeyond]⟩
  · exact busRead_memWrite_workRam v hs (region_workRam_iff.mpr ⟨hlo, hhi⟩)
  · exact busRead_memWrite_oam v hs (region_of_bounds ⟨hlo, hhi⟩)
  · exact busRead_memWrite_hram v hs (region_of_bounds ⟨hlo, hhi⟩)
  · have hr : region a = .ie := region_of_bounds ⟨h.ge, h.le⟩
    exact ⟨memWrite_of_ie v hr, busRead_of_ie hr⟩

/-! ### The regions one by one -/

/-- Settles O41: the overlay by the latch, the cartridge by ROM_SIZE. -/
theorem romWindowReads : Obligations.RomWindowReads := by
  refine fun s a => ⟨fun h hs => busRead_of_bootRom (region_of_bounds ⟨Nat.zero_le _, h⟩) hs, fun h => ?_⟩
  have hcart : busRead s a = cartRead s a :=
    busRead_of_cart (h.imp (And.imp_left fun h => region_of_bounds ⟨Nat.zero_le _, h⟩) region_of_bounds)
  refine ⟨fun hlt => by rw [hcart, cartRead, if_pos hlt], fun hge k => memRead_beyondRom ?_ k⟩
  rw [hcart, cartRead, if_neg (Nat.not_lt.mpr hge)]

/-- A work RAM address without an echo is touched by no other address. -/
theorem untouched_of_unechoed {w b : Word} (hlo : 0xDE00 ≤ w.toNat) (hhi : w.toNat ≤ 0xDFFF) (h : b ≠ w) :
    Untouched w b := by
  have hw : region w = .wram := region_of_bounds ⟨Nat.le_trans (by decide) hlo, hhi⟩
  refine ⟨fun he => ?_, fun hlatch => by rw [hlatch] at hhi; exact absurd hhi (by decide)⟩
  rw [unecho_of_not_echo (w := w) (by rw [hw]; decide)] at he
  by_cases hb : region b = .echo
  · obtain ⟨hlo', hhi'⟩ : 0xE000 ≤ b.toNat ∧ b.toNat ≤ 0xFDFF := region_eq_iff.mp hb
    have hbyte := toNat_unecho (.inr hb)
    rw [he, echo_offset hb] at hbyte
    omega
  · exact h ((unecho_of_not_echo hb).symm.trans he)

/-- Settles O42: an address and its echo have one offset in the store. -/
theorem echoAliasesWorkRam : Obligations.EchoAliasesWorkRam := by
  refine ⟨fun s a v hs hlo hhi => ?_, fun s a v hs hlo hhi => ?_, fun s a b v hlo hhi h =>
    busRead_memWrite_untouched v (untouched_of_unechoed hlo hhi h)⟩
  · have ha : region a = .wram ∨ region a = .echo := region_workRam_iff.mpr ⟨hlo, by omega⟩
    have hoff : (a.toNat - 0xC000) % 0x2000 = a.toNat - 0xC000 := Nat.mod_eq_of_lt (by omega)
    refine ⟨busRead_memWrite_workRam v hs ha, ?_, ?_⟩
    · rw [busRead_of_workRam ha, hoff]
    · rw [memWrite_of_workRam v ha, hoff]
  · have hecho : (a + 0x2000#16).toNat = a.toNat + 0x2000 :=
      BitVec.toNat_add_of_lt (by simp only [BitVec.toNat_ofNat]; omega)
    have ha : region a = .wram ∨ region a = .echo := region_workRam_iff.mpr ⟨hlo, by omega⟩
    have ha' : region (a + 0x2000#16) = .wram ∨ region (a + 0x2000#16) = .echo :=
      region_workRam_iff.mpr ⟨by omega, by omega⟩
    have hoff : ((a + 0x2000#16).toNat - 0xC000) % 0x2000 = a.toNat - 0xC000 := by omega
    have hwrite : memWrite s (a + 0x2000#16) v = memWrite s a v := by
      rw [memWrite_of_workRam v ha, memWrite_of_workRam v ha', hoff, Nat.mod_eq_of_lt (by omega)]
    refine ⟨by rw [busRead_of_workRam ha', hoff], hwrite, ?_, ?_⟩
    · rw [← hwrite]; exact busRead_memWrite_workRam v hs ha'
    · rw [hwrite]; exact busRead_memWrite_workRam v hs ha

/-- Settles O44: 0xFF50 is the one I/O address whose write is stored. -/
theorem ioWrites : Obligations.IoWrites := fun _ _ v hlo hhi => memWrite_of_io v (region_of_bounds ⟨hlo, hhi⟩)

/-- Settles O45: the two drawn regions, and the regions whose writes are discarded. -/
theorem drawnReadsAndDiscardedWrites : Obligations.DrawnReadsAndDiscardedWrites := by
  refine ⟨fun s a hlo hhi => ?_, fun s a v h => ?_⟩
  · have hr : region a = .unusable ∨ region a = .io := by
      rcases Nat.lt_or_ge 0xFEFF a.toNat with h | h
      · exact .inr (region_of_bounds ⟨h, hhi⟩)
      · exact .inl (region_of_bounds ⟨hlo, h⟩)
    exact ⟨busRead_of_drawn hr, memRead_draw (busRead_of_drawn hr)⟩
  · rcases h with h | h
    · exact memWrite_of_romWindow v (region_romWindow_iff.mpr h)
    · exact memWrite_of_unusable v (region_of_bounds h)

/-- Settles O46: a read by whether VRAM is blocked; a write does not ask. -/
theorem vramBlocking : Obligations.VramBlocking := by
  intro s a hlo hhi
  have hr : region a = .vram := region_of_bounds ⟨hlo, hhi⟩
  refine ⟨fun ⟨hon, hmode⟩ => ?_, fun h => ?_, fun v => memWrite_of_vram v hr⟩
  · rw [busRead_of_vram hr, if_pos (by simp [vramBlocked, hon, hmode])]
  · rw [busRead_of_vram hr, vramBlocked_eq_false_iff.mpr h]
    rfl

/-! ### What an instruction leaves of the memory -/

/-- What `g` observes of a state is no byte register, pair, flag or PC, nor the counter of draws. -/
structure IgnoresRegisters {α : Type} (g : State → α) : Prop where
  reg : ∀ s r b, g (s.setReg r b) = g s := by simp
  pair : ∀ s p w, g (s.setPair p w) = g s := by simp
  flags : ∀ s f, g (s.setFlags f) = g s := by simp
  pc : ∀ (s : State) w, g { s with pc := w } = g s := by simp
  draws : ∀ (s : State) n, g { s with draws := n } = g s := by simp

/-- What ignores the registers, and every store to an address the instruction stores to, the instruction keeps. -/
theorem exec_next_frame {α : Type} {g : State → α} (hg : IgnoresRegisters g) {i : Instr} {s t : State}
    (h : exec i s = .next t) (hw : ∀ w ∈ storedTo s i.form, ∀ u b, g (memWrite u w b) = g u) : g t = g s := by
  obtain ⟨v, n, rfl⟩ := exec_next_afterForm h
  refine afterForm_induction (P := fun u => g u = g s) i.form v { s with draws := n }
    (fun u r b => (hg.reg u r b).trans) (fun u p w => (hg.pair u p w).trans) (fun u f => (hg.flags u f).trans)
    (fun u w => (hg.pc u w).trans) (fun u w b hm => ?_) (hg.draws s n)
  rw [storedTo_setDraws] at hm
  exact (hw w hm u b).trans

theorem afterForm_draws (f : Form) (v : Byte) (s : State) : (afterForm f v s).draws = s.draws :=
  afterForm_induction (P := fun t => t.draws = s.draws) f v s (fun t r b => by simp) (fun t p w => by simp)
    (fun t g => by simp) (fun t w => id) (fun t w b _ => by simp) rfl

/-- Settles O15: each clause is what one observation of the memory keeps under a store elsewhere. -/
theorem memoryFrame : Obligations.MemoryFrame := by
  intro i s t h
  refine ⟨fun b hs => ?_, fun hs => ?_, fun b hlo hhi hb => ?_, fun hs => ?_, fun hs => ?_, fun hs => ?_, fun hs => ?_,
    fun hs => ?_, fun hs => ?_, ?_⟩
  · exact exec_next_frame (g := fun u => busRead u b) {} h fun w hw u v => busRead_memWrite_untouched v (hs w hw)
  · refine exec_next_frame (g := State.vram) {} h fun w hw u v => ?_
    rw [memWrite_vram, if_neg (region_ne_of_outside (hs w hw))]
  · exact exec_next_frame (g := fun u => Memory.read u.vram (b.toNat - 0x8000)) {} h fun w hw u v =>
      read_vram_memWrite_other v (region_of_bounds ⟨hlo, hhi⟩) fun h => hb (h ▸ hw)
  · refine exec_next_frame (g := State.extRam) {} h fun w hw u v => ?_
    rw [memWrite_extRam, if_neg fun hr => region_ne_of_outside (hs w hw) hr.1]
  · refine exec_next_frame (g := State.wram) {} h fun w hw u v => ?_
    have hout := hs w hw
    rw [memWrite_wram, if_neg fun hr => by have := region_workRam_iff.mp hr; omega]
  · refine exec_next_frame (g := State.oam) {} h fun w hw u v => ?_
    rw [memWrite_oam, if_neg (region_ne_of_outside (hs w hw))]
  · refine exec_next_frame (g := State.hram) {} h fun w hw u v => ?_
    rw [memWrite_hram, if_neg (region_ne_of_outside (hs w hw))]
  · refine exec_next_frame (g := State.ie) {} h fun w hw u v => ?_
    have hne : region w ≠ .ie := fun hr => hs <| by
      have : w = 0xFFFF#16 := BitVec.eq_of_toNat_eq (Nat.le_antisymm (region_eq_iff.mp hr).2 (region_eq_iff.mp hr).1)
      exact this ▸ hw
    rw [memWrite_ie, if_neg hne]
  · rw [exec_next_bootOff h, decide_eq_false hs, Bool.or_false]
  · obtain ⟨-, v, u, hd, rfl⟩ := exec_next_iff.mp h
    rw [afterForm_draws]
    generalize readFrom s i.form = a at hd ⊢
    cases hd with
    | unread => rfl
    | byte hb => simp [hb]
    | draw hb => simp [hb]

/-! ### What a run keeps -/

/-- A step changes neither what the launch fixed nor, when it goes on, the mark. -/
theorem step_next_machine {s t : State} (h : step s = .next t) : t.launch = s.launch ∧ t.haltedBy = s.haltedBy := by
  obtain ⟨-, op, operands, u, v, hf, -, he, rfl⟩ := step_next h
  obtain ⟨-, hlaunch, hmark⟩ := exec_next_machine he
  rw [advancePpu_launch, advancePpu_haltedBy, hlaunch, hmark, hf.state_eq]
  exact ⟨rfl, rfl⟩

/-- No run changes what the launch fixed, nor the mark. -/
theorem reaches_machine {s t : State} (h : Reaches s t) : t.launch = s.launch ∧ t.haltedBy = s.haltedBy := by
  induction h with
  | here => exact ⟨rfl, rfl⟩
  | step _ hnext ih =>
    obtain ⟨hl, hm⟩ := step_next_machine hnext
    exact ⟨hl.trans ih.1, hm.trans ih.2⟩

/-- Settles O57: by induction along the run. -/
theorem launchNeverChanges : Obligations.LaunchNeverChanges := fun _ _ h => (reaches_machine h).1

/-- With a ROM that fills its window no read is beyond it. -/
theorem busRead_ne_beyondRom {s : State} (hrom : 0x8000 ≤ s.launch.romSize) (w : Word) :
    busRead s w ≠ .beyondRom := fun h => by
  obtain ⟨hwindow, hbeyond⟩ := beyondRom_bounds h
  omega

/-- With a full ROM window and UNBOUND_POLICY nop every instruction goes on. -/
theorem exec_goes_on {s : State} (hrom : 0x8000 ≤ s.launch.romSize) (hp : s.launch.unboundPolicy = .nop) (i : Instr) :
    ∃ t, exec i s = .next t := by
  rcases exec_cases i s with h | ⟨w, hb, -⟩ | ⟨op, -, hrefuse, -⟩
  · exact h
  · exact absurd hb (busRead_ne_beyondRom hrom w)
  · rw [hp] at hrefuse; cases hrefuse

/-- With a full ROM window and UNBOUND_POLICY nop every step of a running machine goes on. -/
theorem step_goes_on {s : State} (hr : s.haltedBy = .none) (hrom : 0x8000 ≤ s.launch.romSize)
    (hp : s.launch.unboundPolicy = .nop) : ∃ t, step s = .next t := by
  rcases step_cases hr with ⟨op, operands, u, hf, -, h⟩ | ⟨got, u, -, -, hb, -⟩
  · obtain ⟨t, ht⟩ := exec_goes_on (s := u) (by rwa [hf.launch_eq]) (by rwa [hf.launch_eq]) (decodeOperands op operands)
    exact ⟨_, by rw [h, ht]; rfl⟩
  · exact absurd hb (busRead_ne_beyondRom hrom _)

/-- Settles O60: a run keeps the running mark, the ROM's size and the policy, under which every step goes on. -/
theorem fullRomMachineNeverStops : Obligations.FullRomMachineNeverStops := by
  intro s hr hrom hp t hreach
  obtain ⟨hl, hm⟩ := reaches_machine hreach
  exact step_goes_on (hm.trans hr) (by rwa [hl]) (by rwa [hl])

end Sys2Proof.Machine

/-! PROOFS of the family 30_encoding. First the layer the proofs share: what decoding a list of bytes gives, the opcode
map read forwards from an instruction, and read backwards from an opcode byte by its rule. -/

namespace Sys2Proof

open Sys2Proof.Claims

/-! ### Decoding a list of bytes -/

/-- A list of bytes decodes exactly when it is an opcode byte, the operand bytes it calls for, and what is left over. -/
theorem decode_eq_ok_iff {n : StopLength} {bytes rest : List Byte} {i : Instr} :
    decode n bytes = .ok (i, rest) ↔
      ∃ op operands, bytes = op :: (operands ++ rest) ∧ operands.length = operandCount n op ∧
        decodeOperands op operands = i := by
  constructor
  · intro h
    cases bytes with
    | nil => cases h
    | cons op tail =>
      rw [decode] at h
      split at h
      · cases h
      · cases h
        exact ⟨op, tail.take (operandCount n op), by rw [List.take_append_drop],
          List.length_take_of_le (by omega), rfl⟩
  · rintro ⟨op, operands, rfl, hl, rfl⟩
    rw [decode, if_neg (by rw [List.length_append]; omega), ← hl, List.take_left, List.drop_left]

/-- Settles O3: decoding looks at how many bytes follow the opcode byte, and at no byte's value. -/
theorem decodeFailsOnlyOnMissingBytes : Obligations.DecodeFailsOnlyOnMissingBytes := by
  refine ⟨fun _ => rfl, fun n op rest => ⟨fun h => if_pos h, fun h => ⟨_, decode_eq_ok_iff.mpr ⟨op,
    rest.take (operandCount n op), ?_, List.length_take_of_le h, rfl⟩⟩⟩⟩
  rw [List.take_append_drop]

/-! ### The opcode map from an instruction -/

/-- The opcode map agrees, forwards and backwards, on every instruction. -/
theorem opcodeMap (i : Instr) : Laws.OpcodeMap.Statement i := by
  cases i with
  | ldBcD16 v => exact Laws.OpcodeMap.ldBcD16 v
  | ldDeD16 v => exact Laws.OpcodeMap.ldDeD16 v
  | ldHlD16 v => exact Laws.OpcodeMap.ldHlD16 v
  | ldSpD16 v => exact Laws.OpcodeMap.ldSpD16 v
  | ldA16Sp v => exact Laws.OpcodeMap.ldA16Sp v
  | ldBD8 v => exact Laws.OpcodeMap.ldBD8 v
  | ldCD8 v => exact Laws.OpcodeMap.ldCD8 v
  | ldDD8 v => exact Laws.OpcodeMap.ldDD8 v
  | ldED8 v => exact Laws.OpcodeMap.ldED8 v
  | ldHD8 v => exact Laws.OpcodeMap.ldHD8 v
  | ldLD8 v => exact Laws.OpcodeMap.ldLD8 v
  | ldIndHlD8 v => exact Laws.OpcodeMap.ldIndHlD8 v
  | ldAD8 v => exact Laws.OpcodeMap.ldAD8 v
  | jrR8 e => exact Laws.OpcodeMap.jrR8 e
  | jrNzR8 e => exact Laws.OpcodeMap.jrNzR8 e
  | jrZR8 e => exact Laws.OpcodeMap.jrZR8 e
  | jrNcR8 e => exact Laws.OpcodeMap.jrNcR8 e
  | jrCR8 e => exact Laws.OpcodeMap.jrCR8 e
  | ldhA8A o => exact Laws.OpcodeMap.ldhA8A o
  | ldhAA8 o => exact Laws.OpcodeMap.ldhAA8 o
  | _ => exact fun _ => ⟨rfl, fun n => by cases n <;> rfl⟩

/-- Only STOP has STOP's rule. -/
theorem form_eq_stop_iff {i : Instr} : i.form = .stop ↔ i = .stop := by
  refine ⟨fun h => ?_, fun h => h ▸ rfl⟩
  cases i with
  | stop => rfl
  | _ => cases h

/-- An instruction is its opcode byte and its operand bytes; STOP of two bytes has one more. -/
theorem encode_eq {n : StopLength} {i : Instr} (h : n = .one ∨ i ≠ .stop) :
    encode n i = i.opcode :: i.form.operandBytes := by
  unfold encode
  split
  case h_1 hf => exact absurd (form_eq_stop_iff.mp hf) (h.resolve_left (by decide))
  case h_2 => rw [List.append_nil]

/-- Settles O1: the bytes after the opcode byte are the ones it calls for, and the opcode map reads the instruction
from them; of STOP's discarded byte it reads nothing. -/
theorem decodeOfEncodeIsTheInstruction : Obligations.DecodeOfEncodeIsTheInstruction := by
  intro n i rest hwf
  obtain ⟨hdecode, hlength⟩ := opcodeMap i hwf
  by_cases h : n = .one ∨ i ≠ .stop
  · have hl := hlength n
    rw [encode_eq h, List.length_cons] at hl
    rw [encode_eq h]
    exact decode_eq_ok_iff.mpr ⟨_, _, rfl, Nat.succ.inj hl, hdecode⟩
  · obtain ⟨hn, rfl⟩ : n ≠ .one ∧ i = .stop := by simpa using h
    cases n with
    | one => exact absurd rfl hn
    | two => rfl

/-! ### The opcode map from an opcode byte -/

/-- The rule with its operands replaced by those that the operand bytes `o1` and `o2` stand for. -/
def Form.withOperands (o1 o2 : Byte) : Form → Form
  | .ldPairImm p _ => .ldPairImm p (wordOf o2 o1)
  | .ldA16Sp _ => .ldA16Sp (wordOf o2 o1)
  | .ldRegImm r _ => .ldRegImm r o1
  | .ldMemImm _ => .ldMemImm o1
  | .ldhStore _ => .ldhStore o1
  | .ldhLoad _ => .ldhLoad o1
  | .jr _ => .jr o1.toInt
  | .jrCond cc _ => .jrCond cc o1.toInt
  | f => f

/-- The sixteen opcode bytes of a row of the opcode map, by its high hex digit. -/
def opcodeRow (hi : Nat) : List Byte := (List.range 16).map fun lo => BitVec.ofNat 8 (16 * hi + lo)

theorem mem_opcodeRow (op : Byte) : op ∈ opcodeRow (op.toNat / 16) :=
  List.mem_map.mpr ⟨op.toNat % 16, List.mem_range.mpr (Nat.mod_lt _ (by decide)), by
    rw [Nat.div_add_mod, BitVec.ofNat_toNat, BitVec.setWidth_eq]⟩

/-- The opcode byte fixes the rule, and the operand bytes its operands: sixteen rows, each read off the decoder. -/
theorem form_decodeInstr (op o1 o2 : Byte) :
    (decodeInstr op o1 o2).form = (decodeInstr op 0#8 0#8).form.withOperands o1 o2 := by
  have hrow : ∀ hi < 16, (opcodeRow hi).map (fun op => (decodeInstr op o1 o2).form) =
      (opcodeRow hi).map fun op => (decodeInstr op 0#8 0#8).form.withOperands o1 o2 := by
    intro hi hlt
    interval_cases hi <;> rfl
  exact List.map_inj_left.mp (hrow _ (by have := op.isLt; omega)) op (mem_opcodeRow op)

theorem Form.opcode_withOperands (o1 o2 : Byte) (f : Form) : (f.withOperands o1 o2).opcode = f.opcode := by
  cases f <;> rfl

/-- The opcode byte of what is decoded is the one it was decoded from. -/
theorem opcode_decodeInstr (op o1 o2 : Byte) : (decodeInstr op o1 o2).opcode = op := by
  have h : ∀ op, (decodeInstr op 0#8 0#8).opcode = op := by decide
  rw [Instr.opcode, form_decodeInstr, Form.opcode_withOperands]
  exact h op

/-- A rule's offset, if it has one, is in range. -/
def Form.offsetOk : Form → Bool
  | .jr e | .jrCond _ e => offsetInRange e
  | _ => true

theorem wf_eq_offsetOk (i : Instr) : i.wf = i.form.offsetOk := by cases i <;> rfl

/-- What is decoded is well formed: an operand byte stands for an offset in range. -/
theorem wf_decodeInstr (op o1 o2 : Byte) : (decodeInstr op o1 o2).wf = true := by
  rw [wf_eq_offsetOk, form_decodeInstr]
  cases (decodeInstr op 0#8 0#8).form with
  | jr | jrCond => exact offsetInRange_toInt o1
  | _ => rfl

/-- The operand bytes of what is decoded are the first of those it was decoded from. -/
theorem operandBytes_decodeInstr (op o1 o2 : Byte) :
    ∃ k ≤ 2, (decodeInstr op o1 o2).form.operandBytes = [o1, o2].take k := by
  rw [form_decodeInstr]
  cases (decodeInstr op 0#8 0#8).form with
  | ldPairImm | ldA16Sp => exact ⟨2, by decide, by simp [Form.withOperands, Form.operandBytes]⟩
  | jr | jrCond => exact ⟨1, by decide, by simp [Form.withOperands, Form.operandBytes]⟩
  | ldRegImm | ldMemImm | ldhStore | ldhLoad => exact ⟨1, by decide, rfl⟩
  | _ => exact ⟨0, by decide, rfl⟩

/-- As many operand bytes as an instruction has, decoded to it, are its own. -/
theorem operandBytes_decodeOperands {op : Byte} {operands : List Byte}
    (h : (decodeOperands op operands).form.operandBytes.length = operands.length) :
    (decodeOperands op operands).form.operandBytes = operands := by
  obtain ⟨k, hk, he⟩ := operandBytes_decodeInstr op (operands.getD 0 0x00#8) (operands.getD 1 0x00#8)
  rw [decodeOperands, he, List.length_take, List.length_cons, List.length_singleton] at h
  rw [decodeOperands, he, show k = operands.length by omega]
  match operands with
  | [] | [_] | [_, _] => rfl
  | _ :: _ :: _ :: _ => simp at h; omega

/-- Settles O2: what is decoded has the opcode byte and, unless it is STOP of two bytes, the operand bytes it was
decoded from. -/
theorem encodeOfDecodeIsTheBytes : Obligations.EncodeOfDecodeIsTheBytes := by
  intro n bytes i rest h
  obtain ⟨op, operands, rfl, hl, rfl⟩ := decode_eq_ok_iff.mp h
  have hop : (decodeOperands op operands).opcode = op := opcode_decodeInstr _ _ _
  have hwf : (decodeOperands op operands).wf = true := wf_decodeInstr _ _ _
  refine ⟨hwf, fun hstop => ?_⟩
  have hlength := (opcodeMap _ hwf).2 n
  rw [encode_eq hstop, hop, ← hl, List.length_cons] at hlength
  rw [encode_eq hstop, hop, operandBytes_decodeOperands (Nat.succ.inj hlength), List.cons_append]

/-! ### The unbound bytes and the rules -/

theorem withOperands_eq_unbound_iff {op o1 o2 : Byte} {f : Form} :
    f.withOperands o1 o2 = .unbound op ↔ f = .unbound op := by
  cases f <;> simp [Form.withOperands]

/-- The unbound bytes are those that decode to an unbound opcode. -/
theorem unboundByte_iff_form (op o1 o2 : Byte) :
    unboundByte op = true ↔ (decodeInstr op o1 o2).form = .unbound op := by
  have h : ∀ op, unboundByte op = true ↔ (decodeInstr op 0#8 0#8).form = .unbound op := by decide
  rw [form_decodeInstr, withOperands_eq_unbound_iff]
  exact h op

/-- Every bound rule is the rule of its opcode byte, with the operands its operand bytes stand for. -/
theorem form_decodeInstr_opcode (o1 o2 : Byte) {f : Form} (h : ∀ op, f = .unbound op → unboundByte op = true) :
    (decodeInstr f.opcode o1 o2).form = f.withOperands o1 o2 := by
  cases f with
  | unbound op => exact (unboundByte_iff_form op o1 o2).mp (h op rfl)
  | ldRegReg r r' => cases r <;> cases r' <;> rfl
  | incReg r | decReg r | ldRegMem r | ldMemReg r | addReg r | adcReg r => cases r <;> rfl
  | incPair p | decPair p | addHl p => cases p <;> rfl
  | ldIndA i | ldAInd i => cases i <;> rfl
  -- An opcode byte evaluates once the operand is out of it.
  | ldRegImm r => dsimp only [Form.opcode]; cases r <;> rfl
  | ldPairImm p => dsimp only [Form.opcode]; cases p <;> rfl
  | jrCond cc => dsimp only [Form.opcode]; cases cc <;> rfl
  | ldMemImm | ldA16Sp | jr | ldhStore | ldhLoad => dsimp only [Form.opcode]; rfl
  | _ => rfl

/-- Every rule and operand has an instruction: the one its bytes decode to or, for a jump by any integer, the one of its
condition. -/
theorem exists_form_eq {f : Form} (h : ∀ op, f = .unbound op → unboundByte op = true) :
    ∃ i : Instr, i.form = f := by
  have hdecode := fun o1 o2 => form_decodeInstr_opcode o1 o2 h
  cases f with
  | jr e => exact ⟨.jrR8 e, rfl⟩
  | jrCond cc e =>
    cases cc with
    | nz => exact ⟨.jrNzR8 e, rfl⟩
    | z => exact ⟨.jrZR8 e, rfl⟩
    | nc => exact ⟨.jrNcR8 e, rfl⟩
    | c => exact ⟨.jrCR8 e, rfl⟩
  | ldPairImm p v =>
    exact ⟨_, (hdecode (lowByte v) (highByte v)).trans (congrArg (Form.ldPairImm p) (wordOf_bytes v))⟩
  | ldA16Sp v => exact ⟨_, (hdecode (lowByte v) (highByte v)).trans (congrArg Form.ldA16Sp (wordOf_bytes v))⟩
  | ldRegImm _ v | ldMemImm v | ldhStore v | ldhLoad v => exact ⟨_, hdecode v 0#8⟩
  | _ => exact ⟨_, hdecode 0#8 0#8⟩

/-- Settles O5: the unbound bytes by the decoder's rule, their count by evaluation, and an instruction for each rule. -/
theorem unboundBytesAndRuleForms : Obligations.UnboundBytesAndRuleForms :=
  ⟨unboundByte_iff_form, rfl, fun _ => exists_form_eq⟩

/-- Settles O4: each word decodes by evaluation. -/
theorem sampleWordsDecode : Obligations.SampleWordsDecode :=
  ⟨rfl, rfl, rfl, rfl, rfl, rfl, rfl, rfl, rfl, rfl, rfl, rfl, rfl, rfl, rfl, rfl, rfl⟩

/-! ### The step -/

/-- Settles O6: bytes that decode to an instruction with nothing left over are its opcode byte and the operand bytes a
step fetches. -/
theorem stepRunsTheDecodedInstruction : Obligations.StepRunsTheDecodedInstruction := by
  intro s bytes i u hr hf hd
  obtain ⟨op, operands, rfl, hl, rfl⟩ := decode_eq_ok_iff.mp hd
  rw [List.append_nil] at hf ⊢
  have hstep := hf.step_eq hr hl
  exact ⟨hf.state_eq, fun t h => by rw [hstep, h]; rfl, fun f h => by rw [hstep, h]; rfl,
    fun r h => by rw [hstep, h]; rfl⟩

end Sys2Proof

/-! PROOFS of the family 40_loads. First the layer the proofs share: what a fetch beyond the ROM stops with, the bytes
and the meaning of an instruction from its rule, and where the zero page lies. -/

namespace Sys2Proof.Machine

open Sys2Proof.Claims

/-! ### An operand fetch beyond the ROM -/

/-- Stored bytes are fetched as they are, without a draw. -/
theorem fetches_of_bytesAt (s : State) {pc : Word} {vs : List Byte} (h : BytesAt s pc vs) :
    Fetches { s with pc := pc } vs { s with pc := pc + BitVec.ofNat 16 vs.length } := by
  induction vs generalizing pc with
  | nil => simp [Fetches]
  | cons v vs ih =>
    obtain ⟨hv, hvs⟩ := h
    have hpc : pc + 1#16 + BitVec.ofNat 16 vs.length = pc + BitVec.ofNat 16 (vs.length + 1) := by
      rw [BitVec.add_assoc, Nat.add_comm vs.length 1, BitVec.ofNat_add]
    rw [List.length_cons, ← hpc]
    exact .inl ⟨hv, ih hvs⟩

/-- When more bytes are asked for than were fetched and the next is beyond the ROM, fetching stops there. -/
theorem Fetches.fetchBytes_beyondRom {s u : State} {vs : List Byte} {n : Nat} (h : Fetches s vs u)
    (hl : vs.length < n) (hb : busRead u u.pc = .beyondRom) (k : List Byte → State → Out) :
    fetchBytes n s k = faultStop (.cartRange u.pc) u := by
  induction n generalizing s vs k with
  | zero => exact absurd hl (Nat.not_lt_zero _)
  | succ n ih =>
    cases vs with
    | nil => cases h; exact fetch8_beyondRom hb _
    | cons v vs =>
      obtain ⟨t, hv, hvs⟩ := h.uncons
      rw [fetchBytes, hv.fetch8_eq, ih hvs (Nat.lt_of_succ_lt_succ hl)]

/-- A running machine whose instruction is not yet whole when the next byte is beyond the ROM stops there. -/
theorem Fetches.step_beyondRom {s u : State} {op : Byte} {got : List Byte} (h : Fetches s (op :: got) u)
    (hr : s.haltedBy = .none) (hl : got.length < operandCount s.launch.stopLength op)
    (hb : busRead u u.pc = .beyondRom) : step s = faultStop (.cartRange u.pc) u := by
  obtain ⟨t, hop, hgot⟩ := h.uncons
  rw [step_running hr, runStep, fetchInstr, hop.fetch8_eq, hop.launch_eq, hgot.fetchBytes_beyondRom hl hb]

/-- The operand bytes of every opcode fault alike: those before the missing one are stored, and fetched as they are. -/
theorem operandFetchFaults (op : Byte) : OperandFetchFaults op := by
  intro s got addr hr hbytes hl haddr hb
  have hpc : addr = s.pc + BitVec.ofNat 16 (op :: got).length := by
    rw [haddr, BitVec.add_assoc, ← BitVec.ofNat_add, Nat.add_comm, List.length_cons]
  have hf := fetches_of_bytesAt s hbytes
  rw [← hpc] at hf
  exact hf.step_beyondRom hr hl hb

/-! ### An instruction from its rule -/

theorem exec_of_form {i : Instr} {f : Form} (h : i.form = f) (s : State) : exec i s = runForm f s :=
  h ▸ exec_eq_runForm i s

/-- An instruction other than STOP is its rule's opcode byte and operand bytes. -/
theorem encodedAs_of_form {i : Instr} {f : Form} (h : i.form = f) (hf : f ≠ .stop) :
    EncodedAs i (f.opcode :: f.operandBytes) := by
  subst h
  exact fun _ => encode_eq (.inr (mt form_eq_stop_iff.mpr hf))

/-- A read inside a step, its continuation always completing, has the three cases of `GoesOnWithRead`. -/
theorem goesOnWithRead_memRead (s : State) (w : Word) (k : Byte → State → State) :
    GoesOnWithRead s w k (memRead s w fun v t => .next (k v t)) :=
  ⟨fun _ h => memRead_byte h _, fun h => memRead_draw h _, fun h => memRead_beyondRom h _⟩

/-! ### What a bus write does at the latch, at IE and in HRAM -/

theorem memWrite_latchAddress (s : State) (v : Byte) : memWrite s 0xFF50#16 v = { s with bootOff := true } :=
  (memWrite_of_io v rfl).trans (if_pos rfl)

theorem memWrite_ieAddress (s : State) (v : Byte) : memWrite s 0xFFFF#16 v = { s with ie := v } :=
  memWrite_of_ie v rfl

theorem memWrite_of_hram {s : State} {w : Word} (v : Byte) (h : region w = .hram) :
    memWrite s w v = { s with hram := Memory.write s.hram (w.toNat - 0xFF80) v } := by
  simp [memWrite, h]

/-! ### The zero page -/

theorem toNat_zeroPage (o : Byte) : (zeroPage o).toNat = 0xFF00 + o.toNat := by
  have ho : (o.setWidth 16).toNat = o.toNat := BitVec.toNat_setWidth_of_le (by decide)
  have := o.isLt
  rw [zeroPage, BitVec.toNat_add_of_lt (by rw [ho, BitVec.toNat_ofNat]; omega), ho]
  rfl

theorem region_zeroPage_io {o : Byte} (h : o.toNat ≤ 0x7F) : region (zeroPage o) = .io :=
  region_of_bounds (by rw [toNat_zeroPage]; simp only [Region.bounds]; omega)

theorem region_zeroPage_hram {o : Byte} (hlo : 0x80 ≤ o.toNat) (hhi : o.toNat ≤ 0xFE) :
    region (zeroPage o) = .hram :=
  region_of_bounds (by rw [toNat_zeroPage]; simp only [Region.bounds]; omega)

theorem zeroPage_injective : Function.Injective zeroPage := fun o o' h => by
  have := congrArg BitVec.toNat h
  rw [toNat_zeroPage, toNat_zeroPage] at this
  exact BitVec.eq_of_toNat_eq (by omega)

/-- A zero page read is not beyond the ROM, which ends below it. -/
theorem busRead_zeroPage_ne_beyondRom (s : State) (o : Byte) : busRead s (zeroPage o) ≠ .beyondRom := fun h => by
  have := (beyondRom_bounds h).1
  rw [toNat_zeroPage] at this
  omega

/-! ### The bytes of a word as truncations -/

theorem lowByte_eq_setWidth (w : Word) : lowByte w = w.setWidth 8 := by
  apply BitVec.eq_of_toNat_eq
  rw [toNat_lowByte, BitVec.toNat_setWidth]

theorem highByte_eq_setWidth (w : Word) : highByte w = (w >>> 8).setWidth 8 := rfl

/-! ### The loads -/

/-- Settles O16: the bytes and the meaning from the rule. -/
theorem ldPairImmediate : Obligations.LdPairImmediate := fun _ _ _ h =>
  ⟨encodedAs_of_form h nofun, exec_of_form h, operandFetchFaults _⟩

/-- Settles O17: the corner cases by what a store to their address does. -/
theorem storeAThroughAPair : Obligations.StoreAThroughAPair := by
  intro s
  have hbc : exec .ldIndBcA s = .next (memWrite s (wordOf s.b s.c) s.a) := exec_of_form rfl s
  have hde : exec .ldIndDeA s = .next (memWrite s (wordOf s.d s.e) s.a) := exec_of_form rfl s
  have hhli : exec .ldHliA s = .next ((memWrite s (wordOf s.h s.l) s.a).setPair .hl (wordOf s.h s.l + 1#16)) :=
    exec_of_form rfl s
  have hhld : exec .ldHldA s = .next ((memWrite s (wordOf s.h s.l) s.a).setPair .hl (wordOf s.h s.l - 1#16)) :=
    exec_of_form rfl s
  refine ⟨⟨hbc, encodedAs_of_form rfl nofun⟩, ⟨hde, encodedAs_of_form rfl nofun⟩,
    ⟨hhli, encodedAs_of_form rfl nofun⟩, ⟨hhld, encodedAs_of_form rfl nofun⟩,
    fun h => ?_, fun h => ?_, fun h => ?_, fun h => ?_, fun h => ?_, fun h => ?_⟩
  · rw [hbc, h, memWrite_latchAddress]
  · rw [hbc, memWrite_of_romWindow _ (region_romWindow_iff.mpr h)]
  · rw [hde, h, memWrite_latchAddress]
  · rw [hde, memWrite_of_romWindow _ (region_romWindow_iff.mpr h)]
  · rw [hhli, h, memWrite_ieAddress]; rfl
  · rw [hhld, h, memWrite_of_romWindow _ (.inl rfl)]; rfl

/-- Settles O18: each load reads once, at its pair. -/
theorem loadAThroughAPair : Obligations.LoadAThroughAPair := fun s =>
  ⟨⟨goesOnWithRead_memRead s _ _, encodedAs_of_form rfl nofun⟩,
    ⟨goesOnWithRead_memRead s _ _, encodedAs_of_form rfl nofun⟩,
    ⟨goesOnWithRead_memRead s _ _, encodedAs_of_form rfl nofun⟩,
    ⟨goesOnWithRead_memRead s _ _, encodedAs_of_form rfl nofun⟩⟩

/-- Settles O19: the bytes and the meaning from the rule. -/
theorem ldRegisterImmediate : Obligations.LdRegisterImmediate := fun _ _ _ h =>
  ⟨encodedAs_of_form h nofun, exec_of_form h, operandFetchFaults _⟩

/-- Settles O20: the corner cases by what the two stores do at their addresses. -/
theorem ldA16SpStoresLowByteFirst : Obligations.LdA16SpStoresLowByteFirst := by
  have hexec : ∀ addr s, exec (.ldA16Sp addr) s =
      .next (memWrite (memWrite s addr (s.sp.setWidth 8)) (addr + 1#16) ((s.sp >>> 8).setWidth 8)) := by
    intro addr s
    rw [← lowByte_eq_setWidth, ← highByte_eq_setWidth]
    exact exec_of_form rfl s
  refine ⟨fun addr => ⟨encodedAs_of_form rfl nofun, hexec addr⟩, operandFetchFaults _, fun s => ?_, fun s => ?_,
    fun s => ?_⟩
  · rw [hexec, memWrite_ieAddress, memWrite_of_romWindow _ (.inl rfl)]
  · rw [hexec, memWrite_of_io (w := 0xFF4F#16) _ rfl, if_neg (by decide)]
    exact congrArg _ (memWrite_latchAddress s _)
  · rw [hexec, memWrite_of_workRam (w := 0xDDFF#16) _ (.inl rfl), memWrite_of_workRam _ (.inl rfl)]
    rfl

/-- Settles O21: the bytes and the meaning from the rule. -/
theorem loadsIntoARegister : Obligations.LoadsIntoARegister :=
  ⟨fun _ _ _ h => ⟨encodedAs_of_form h nofun, exec_of_form h⟩, fun _ _ h => ⟨encodedAs_of_form h nofun, fun s => by
    rw [exec_of_form h]
    exact goesOnWithRead_memRead s _ _⟩⟩

/-- Settles O22: the bytes and the meaning from the rule. -/
theorem storesThroughHl : Obligations.StoresThroughHl :=
  ⟨fun _ => ⟨encodedAs_of_form rfl nofun, exec_of_form rfl, operandFetchFaults _⟩,
    fun _ _ h => ⟨encodedAs_of_form h nofun, exec_of_form h⟩⟩

/-- Settles O23: the address is in the zero page, whose regions give the corner cases. -/
theorem ldhZeroPage : Obligations.LdhZeroPage := by
  intro o addr haddr
  obtain rfl : addr = zeroPage o := BitVec.eq_of_toNat_eq (haddr.trans (toNat_zeroPage o).symm)
  have hstore : ∀ s, exec (.ldhA8A o) s = .next (memWrite s (zeroPage o) s.a) := exec_of_form rfl
  refine ⟨⟨encodedAs_of_form rfl nofun, hstore, operandFetchFaults _⟩, ⟨encodedAs_of_form rfl nofun, fun s =>
    ⟨goesOnWithRead_memRead s _ _, busRead_zeroPage_ne_beyondRom s o⟩, operandFetchFaults _⟩, fun s =>
    ⟨fun h => ?_, fun h => ?_, fun hlo hhi => ?_, fun hio hne => ?_, fun hio => ?_, fun h => ?_⟩⟩
  · rw [hstore, h]
    exact congrArg _ (memWrite_latchAddress s _)
  · rw [hstore, h]
    exact congrArg _ (memWrite_ieAddress s _)
  · rw [hstore, memWrite_of_hram _ (region_zeroPage_hram hlo hhi), toNat_zeroPage,
      show 0xFF00 + o.toNat - 0xFF80 = o.toNat - 0x80 by omega]
  · have hlatch : zeroPage o ≠ 0xFF50#16 := zeroPage_injective.ne (a₂ := 0x50#8) hne
    rw [hstore, memWrite_of_io _ (region_zeroPage_io hio), if_neg hlatch]
  · exact busRead_of_drawn (.inr (region_zeroPage_io hio))
  · exact busRead_of_ie (by rw [h]; rfl)

end Sys2Proof.Machine

/-! PROOFS of the family 41_inc_dec. First the arithmetic of `inc8` and `dec8` (41_inc_dec.md R170): the result and the
flags they leave, in naturals. -/

namespace Sys2Proof.Machine

open Sys2Proof.Claims

/-! ### The arithmetic of INC and DEC on a byte -/

theorem toNat_lowNibble (o : Byte) : (o &&& 0x0F#8).toNat = o.toNat % 16 := by
  rw [BitVec.toNat_and]
  exact Nat.and_two_pow_sub_one_eq_mod o.toNat 4

theorem inc8_res (f : Flags) (o : Byte) : (inc8 f o).res = BitVec.ofNat 8 (o.toNat + 1) := by
  rw [BitVec.ofNat_add, BitVec.ofNat_toNat, BitVec.setWidth_eq]
  rfl

theorem dec8_res (f : Flags) (o : Byte) : (dec8 f o).res = BitVec.ofNat 8 (o.toNat + 255) := by
  rw [BitVec.ofNat_add, BitVec.ofNat_toNat, BitVec.setWidth_eq]
  exact BitVec.sub_eq_add_neg o 1#8

/-- Z after an increment is a result that wraps, H a full low nibble, which carries out of bit 3. -/
theorem inc8_flags (f : Flags) (o : Byte) :
    (inc8 f o).flags =
      { z := decide (o = 0xFF#8), n := false, h := decide (o.toNat % 16 + 1 > 15), c := f.c } := by
  have hz : o + 1#8 = 0#8 ↔ o = 0xFF#8 := eq_neg_iff_add_eq_zero.symm
  have hh : o &&& 0x0F#8 = 0x0F#8 ↔ o.toNat % 16 + 1 > 15 := by
    rw [← BitVec.toNat_inj, toNat_lowNibble, BitVec.toNat_ofNat]
    omega
  simp only [inc8, hz, hh]

/-- Z after a decrement is an operand of one, H an empty low nibble, which borrows from bit 4. -/
theorem dec8_flags (f : Flags) (o : Byte) :
    (dec8 f o).flags = { z := decide (o = 0x01#8), n := true, h := decide (o.toNat % 16 < 1), c := f.c } := by
  have hz : o - 1#8 = 0#8 ↔ o = 0x01#8 := sub_eq_zero
  have hh : o &&& 0x0F#8 = 0x00#8 ↔ o.toNat % 16 < 1 := by
    rw [← BitVec.toNat_inj, toNat_lowNibble, BitVec.toNat_ofNat]
    omega
  simp only [dec8, hz, hh]

/-! ### The increments and decrements -/

/-- Settles O24: the bytes and the meaning from the rule. -/
theorem incDecPair : Obligations.IncDecPair :=
  ⟨fun _ _ h => ⟨encodedAs_of_form h nofun, exec_of_form h⟩, fun _ _ h => ⟨encodedAs_of_form h nofun, exec_of_form h⟩⟩

/-- Settles O25: the bytes and the meaning from the rule, the result and the flags from `inc8` and `dec8`. -/
theorem incDecRegister : Obligations.IncDecRegister := by
  refine ⟨fun i r h => ⟨encodedAs_of_form h nofun, ?_⟩, fun i r h => ⟨encodedAs_of_form h nofun, ?_⟩⟩
  · rintro s _ rfl
    have hz : s.reg r = 0xFF#8 ↔ ((s.reg r).toNat + 1) % 256 = 0 := by bv_omega
    rw [exec_of_form h, runForm, incReg, inc8_res, inc8_flags]
    simp only [hz]
  · rintro s _ rfl
    have hz : s.reg r = 0x01#8 ↔ (s.reg r).toNat = 1 := BitVec.toNat_inj.symm
    rw [exec_of_form h, runForm, decReg, dec8_res, dec8_flags]
    simp only [hz]

/-- Settles O26: the only access that can fault is the one read, before the store and the flags. -/
theorem incDecMemory : Obligations.IncDecMemory := by
  refine ⟨⟨encodedAs_of_form rfl nofun, encodedAs_of_form rfl nofun⟩, fun s => ?_, fun s => ?_⟩
  · simp only [← inc8_flags]
    exact goesOnWithRead_memRead s _ _
  · simp only [← dec8_flags]
    exact goesOnWithRead_memRead s _ _

end Sys2Proof.Machine

/-! PROOFS of the family 42_rotates. First the bits of a rotate's result (42_rotates.md R190 to R193): the bit filled in,
and the neighbour's bit everywhere else; and the bits of C:A. -/

namespace Sys2Proof.Machine

open Sys2Proof.Claims

/-! ### The bits of a rotated byte, and of C:A -/

theorem getLsbD_rotateLeft_res (a : Byte) (fill : Bool) {i : Nat} (hi : i < 8) :
    (rotateLeft a fill).res.getLsbD i = if i = 0 then fill else a.getLsbD (i - 1) := by
  by_cases h : i = 0
  · simp [rotateLeft, h]
  · have hlt : i - 1 < 8 := by omega
    simp [rotateLeft, h, hi, BitVec.getLsbD_eq_getElem hlt]

theorem getLsbD_rotateRight_res (a : Byte) (fill : Bool) {i : Nat} (hi : i < 8) :
    (rotateRight a fill).res.getLsbD i = if i = 7 then fill else a.getLsbD (i + 1) := by
  by_cases h : i = 7
  · simp [rotateRight, h]
  · have hlt : i < 7 := by omega
    simp [rotateRight, h, hlt, Nat.add_comm 1 i]

theorem getLsbD_carry_append (c : Bool) (a : Byte) (i : Nat) :
    (BitVec.ofBool c ++ a).getLsbD i = if i = 8 then c else a.getLsbD i := by
  rw [BitVec.getLsbD_append, BitVec.getLsbD_ofBool]
  by_cases hlt : i < 8
  · rw [if_pos hlt, if_neg hlt.ne]
  · have h : i - 8 = 0 ↔ i = 8 := by omega
    simp [hlt, h, BitVec.getLsbD_of_ge a i (by omega)]

/-! ### A rotate by its fill: A's own bit, or C -/

theorem rotateLeft_bitSeven (a : Byte) : (rotateLeft a (a.getLsbD 7)).res = a.rotateLeft 1 := by
  refine BitVec.eq_of_getLsbD_eq fun i hi => ?_
  rw [getLsbD_rotateLeft_res a _ hi, BitVec.getLsbD_rotateLeft]
  by_cases h : i = 0 <;> simp [h, hi]

theorem rotateRight_bitZero (a : Byte) : (rotateRight a (a.getLsbD 0)).res = a.rotateRight 1 := by
  refine BitVec.eq_of_getLsbD_eq fun i hi => ?_
  rw [getLsbD_rotateRight_res a _ hi, BitVec.getLsbD_rotateRight]
  by_cases h : i = 7
  · simp [h]
  · have hlt : i < 7 := by omega
    simp [h, hlt, Nat.add_comm 1 i]

/-- In the nine bits C:A, C is bit 8, which a left rotation moves to bit 0. -/
theorem rotateLeft_carry (a : Byte) (c : Bool) :
    (rotateLeft a c).res = ((BitVec.ofBool c ++ a).rotateLeft 1).setWidth 8 := by
  refine BitVec.eq_of_getLsbD_eq fun i hi => ?_
  rw [getLsbD_rotateLeft_res a c hi, BitVec.getLsbD_setWidth, BitVec.getLsbD_rotateLeft, getLsbD_carry_append,
    getLsbD_carry_append]
  by_cases h : i = 0
  · simp [h]
  · have hne : i - 1 ≠ 8 := by omega
    have hlt : i < 9 := by omega
    simp [h, hi, hne, hlt]

/-- In the nine bits C:A, C is bit 8, which a right rotation moves to bit 7. -/
theorem rotateRight_carry (a : Byte) (c : Bool) :
    (rotateRight a c).res = ((BitVec.ofBool c ++ a).rotateRight 1).setWidth 8 := by
  refine BitVec.eq_of_getLsbD_eq fun i hi => ?_
  rw [getLsbD_rotateRight_res a c hi, BitVec.getLsbD_setWidth, BitVec.getLsbD_rotateRight, getLsbD_carry_append,
    getLsbD_carry_append]
  by_cases h : i = 7 <;> simp [h, hi, Nat.add_comm 1 i]

/-! ### The accumulator rotates -/

/-- Settles O27: the bytes and the meaning from the rule, the result by which bit the rotate fills in. -/
theorem accumulatorRotates : Obligations.AccumulatorRotates := by
  refine ⟨⟨encodedAs_of_form rfl nofun, encodedAs_of_form rfl nofun, encodedAs_of_form rfl nofun,
    encodedAs_of_form rfl nofun⟩, fun s => ?_⟩
  rw [← rotateLeft_bitSeven, ← rotateRight_bitZero, ← rotateLeft_carry, ← rotateRight_carry]
  exact ⟨exec_of_form rfl s, exec_of_form rfl s, exec_of_form rfl s, exec_of_form rfl s⟩

end Sys2Proof.Machine

/-! PROOFS of the family 43_add. First the arithmetic of `add8` and ADD HL in naturals (43_add.md R201,
R202), and that of DAA after an add of two-digit decimal numbers (45_bcd_flags.md R220). -/

namespace Sys2Proof.Machine

open Sys2Proof.Claims

/-! ### The arithmetic of ADD, ADC and ADD HL -/

/-- The result and the flags in naturals: H is the carry out of the low nibbles, Z a sum that is 0 modulo 2^8. -/
theorem add8_eq (a b : Byte) (cin : Bool) :
    add8 a b cin =
      { res := BitVec.ofNat 8 (a.toNat + b.toNat + cin.toNat)
        flags :=
          { z := decide ((a.toNat + b.toNat + cin.toNat) % 256 = 0), n := false
            h := decide (a.toNat % 16 + b.toNat % 16 + cin.toNat > 15)
            c := decide (a.toNat + b.toNat + cin.toNat > 255) } } := by
  have hz (k : Nat) : BitVec.ofNat 8 k = 0#8 ↔ k % 256 = 0 := by rw [← BitVec.toNat_inj, BitVec.toNat_ofNat]; rfl
  simp only [add8, hz, toNat_lowNibble]

theorem addToA_eq (b : Byte) (cin : Bool) (s : State) :
    addToA b cin s = { s with
      a := BitVec.ofNat 8 (s.a.toNat + b.toNat + cin.toNat)
      flags := { z := decide ((s.a.toNat + b.toNat + cin.toNat) % 256 = 0), n := false
                 h := decide (s.a.toNat % 16 + b.toNat % 16 + cin.toNat > 15)
                 c := decide (s.a.toNat + b.toNat + cin.toNat > 255) } } := by
  rw [addToA, add8_eq]
  rfl

/-- A carry-in as the statements write it. -/
theorem toNat_carry (c : Bool) : c.toNat = if c then 1 else 0 := Bool.cond_eq_ite c 1 0

theorem toNat_lowTwelve (w : Word) : (w &&& 0x0FFF#16).toNat = w.toNat % 0x1000 := by
  rw [BitVec.toNat_and]
  exact Nat.and_two_pow_sub_one_eq_mod w.toNat 12

/-- Continuations that agree on the state, whatever its counter of draws, go on alike. -/
theorem goesOnWithRead_congr {s : State} {w : Word} {k k' : Byte → State → State} {out : Out}
    (h : GoesOnWithRead s w k out) (hk : ∀ v n, k v { s with draws := n } = k' v { s with draws := n }) :
    GoesOnWithRead s w k' out := by
  obtain ⟨hbyte, hdraw, hbeyond⟩ := h
  exact ⟨fun v hv => (hbyte v hv).trans (congrArg _ (hk v s.draws)),
    fun hd => (hdraw hd).trans (congrArg _ (hk _ _)), hbeyond⟩

/-! ### DAA after an add, in naturals -/

/-- The correction of the high nibble does not reach the low one, so the second test is of A itself. -/
theorem daaAfterAdd_eq (f : Flags) (a : Byte) :
    daaAfterAdd f a =
      (BitVec.ofNat 8 (a.toNat + (if f.c = true ∨ a.toNat > 0x99 then 0x60 else 0) +
          (if f.h = true ∨ a.toNat % 16 > 9 then 0x06 else 0)),
        decide (f.c = true ∨ a.toNat > 0x99)) := by
  have hlow : (a + 0x60#8).toNat % 16 = a.toNat % 16 := by bv_omega
  refine Prod.ext ?_ (by simp [daaAfterAdd])
  by_cases hc : f.c = true ∨ a.toNat > 0x99 <;> by_cases hh : f.h = true ∨ a.toNat % 16 > 9 <;>
    simp only [daaAfterAdd, Bool.or_eq_true, decide_eq_true_eq, toNat_lowNibble, hlow, hc, hh, if_true, if_false,
      BitVec.ofNat_add, BitVec.ofNat_toNat, BitVec.setWidth_eq, BitVec.add_zero]

/-! ### Two-digit decimal numbers -/

theorem toNat_bcd {n : Nat} (h : n ≤ 99) : (bcd n).toNat = n / 10 * 16 + n % 10 := by
  rw [bcd, BitVec.toNat_ofNat]
  omega

theorem bcd_eq_zero_iff {n : Nat} (h : n ≤ 99) : bcd n = 0#8 ↔ n = 0 := by
  rw [← BitVec.toNat_inj, toNat_bcd h, BitVec.toNat_ofNat]
  omega

/-- With the sums `hi` of the tens and `lo` of the units, the carry out of bit 7 or DAA's threshold tells a decimal sum
above 99. -/
theorem decimalCarry_iff {hi lo : Nat} (hhi : hi ≤ 18) (hlo : lo ≤ 19) :
    hi * 16 + lo > 255 ∨ (hi * 16 + lo) % 256 > 0x99 ↔ hi * 10 + lo > 99 := by
  omega

/-- The half-carry or DAA's threshold tells a sum of the units above 9. -/
theorem unitsCarry_iff {hi lo : Nat} (hlo : lo ≤ 19) :
    lo > 15 ∨ (hi * 16 + lo) % 256 % 16 > 9 ↔ lo > 9 := by
  omega

/-- Adding 6 at each digit that carries gives the decimal sum's digits: with the carries `j` of the units and `k` of the
tens, the corrections make up the 16 - 10 that each carry lacks. -/
theorem decimalAdjust_eq_digits {hi lo : Nat} (hhi : hi ≤ 18) (hlo : lo ≤ 19) :
    ((hi * 16 + lo) % 256 + (if hi * 10 + lo > 99 then 0x60 else 0) + (if lo > 9 then 0x06 else 0)) % 256 =
      (hi * 10 + lo) % 100 / 10 * 16 + (hi * 10 + lo) % 100 % 10 := by
  obtain ⟨j, u, hlou, hu⟩ : ∃ j u, lo = 10 * j + u ∧ u ≤ 9 := ⟨lo / 10, lo % 10, by omega, by omega⟩
  obtain ⟨k, t, hhit, ht⟩ : ∃ k t, hi + j = 10 * k + t ∧ t ≤ 9 := ⟨(hi + j) / 10, (hi + j) % 10, by omega, by omega⟩
  have hunits : (hi * 10 + lo) % 100 % 10 = u := by omega
  have htens : (hi * 10 + lo) % 100 / 10 = t := by omega
  have hj : (if lo > 9 then 0x06 else 0) = 0x06 * j := by split_ifs <;> omega
  have hk : (if hi * 10 + lo > 99 then 0x60 else 0) = 0x60 * k := by split_ifs <;> omega
  have hadjusted : hi * 16 + lo + 0x60 * k + 0x06 * j = 256 * k + (t * 16 + u) := by omega
  rw [hunits, htens, hj, hk]
  omega

/-- DAA sees a carry out of a digit exactly when the decimal digits carry there, and corrects it. -/
theorem daaAfterAdd_add8_bcd {x y : Nat} (hx : x ≤ 99) (hy : y ≤ 99) (cin : Bool) :
    daaAfterAdd (add8 (bcd x) (bcd y) cin).flags (add8 (bcd x) (bcd y) cin).res =
      (bcd ((x + y + cin.toNat) % 100), decide (x + y + cin.toNat > 99)) := by
  have hcin := cin.toNat_le
  obtain ⟨hi, hhi⟩ : ∃ hi, hi = x / 10 + y / 10 := ⟨_, rfl⟩
  obtain ⟨lo, hlo⟩ : ∃ lo, lo = x % 10 + y % 10 + cin.toNat := ⟨_, rfl⟩
  have hdecimal : x + y + cin.toNat = hi * 10 + lo := by omega
  have hsum : (bcd x).toNat + (bcd y).toNat + cin.toNat = hi * 16 + lo := by
    rw [toNat_bcd hx, toNat_bcd hy]; omega
  have hunits : (bcd x).toNat % 16 + (bcd y).toNat % 16 + cin.toNat = lo := by
    rw [toNat_bcd hx, toNat_bcd hy]; omega
  have hhi18 : hi ≤ 18 := by omega
  have hlo19 : lo ≤ 19 := by omega
  rw [add8_eq, daaAfterAdd_eq, hdecimal]
  simp only [hsum, hunits, decide_eq_true_eq, BitVec.toNat_ofNat, Nat.reducePow, decimalCarry_iff hhi18 hlo19,
    unitsCarry_iff hlo19]
  refine Prod.ext (BitVec.eq_of_toNat_eq ?_) rfl
  rw [BitVec.toNat_ofNat, toNat_bcd (by omega)]
  exact decimalAdjust_eq_digits hhi18 hlo19

theorem daa_add8_bcd {x y : Nat} (hx : x ≤ 99) (hy : y ≤ 99) (cin : Bool) :
    daa (add8 (bcd x) (bcd y) cin).flags (add8 (bcd x) (bcd y) cin).res =
      { res := bcd ((x + y + cin.toNat) % 100)
        flags := { z := decide ((x + y + cin.toNat) % 100 = 0), n := false, h := false
                   c := decide (x + y + cin.toNat > 99) } } := by
  have hn : (add8 (bcd x) (bcd y) cin).flags.n = false := rfl
  have hz : bcd ((x + y + cin.toNat) % 100) = 0#8 ↔ (x + y + cin.toNat) % 100 = 0 := bcd_eq_zero_iff (by omega)
  simp only [daa, hn, Bool.false_eq_true, if_false, daaAfterAdd_add8_bcd hx hy, hz]

/-! ### The adds -/

/-- Settles O28: the bytes and the meaning from the rule, H by the low twelve bits of the operands. -/
theorem addHlPair : Obligations.AddHlPair := by
  refine fun i p h => ⟨encodedAs_of_form h nofun, ?_⟩
  rintro s _ _ rfl rfl
  rw [← toNat_lowTwelve, ← toNat_lowTwelve]
  exact exec_of_form h s

/-- Settles O29: the bytes and the meaning from the rule, the result and the flags from `addToA`. -/
theorem addAdcRegister : Obligations.AddAdcRegister := by
  refine ⟨fun i r h => ⟨encodedAs_of_form h nofun, ?_⟩, fun i r h => ⟨encodedAs_of_form h nofun, ?_⟩⟩
  · rintro s _ _ rfl rfl
    exact (exec_of_form h s).trans (congrArg _ (addToA_eq (s.reg r) false s))
  · rintro s _ _ _ rfl rfl rfl
    rw [← toNat_carry]
    exact (exec_of_form h s).trans (congrArg _ (addToA_eq (s.reg r) s.flags.c s))

/-- Settles O30: one read, which changes neither A nor the carry flag, and then `addToA`. -/
theorem addAdcMemory : Obligations.AddAdcMemory := by
  refine ⟨⟨encodedAs_of_form rfl nofun, encodedAs_of_form rfl nofun⟩, ?_⟩
  rintro s _ _ rfl rfl
  rw [← toNat_carry]
  exact ⟨goesOnWithRead_congr (goesOnWithRead_memRead s _ _) fun v n => addToA_eq v false { s with draws := n },
    goesOnWithRead_congr (goesOnWithRead_memRead s _ _) fun v n => addToA_eq v s.flags.c { s with draws := n }⟩

/-- Settles O34: ADC leaves the binary sum and its carries with N 0, and DAA makes a decimal sum of it. -/
theorem daaAfterAdcIsDecimalAddition : Obligations.DaaAfterAdcIsDecimalAddition := by
  rintro s t x y _ hx hy rfl ha hb h
  obtain rfl : addToA s.b s.flags.c s = t := Host.Outcome.next.inj ((exec_of_form rfl s).symm.trans h)
  have hdaa := daa_add8_bcd hx hy s.flags.c
  rw [← ha, ← hb, toNat_carry] at hdaa
  exact ⟨_, exec_of_form rfl _, congrArg Alu.res hdaa, congrArg (·.flags.c) hdaa, congrArg (·.flags.z) hdaa, rfl, rfl⟩

end Sys2Proof.Machine

/-! PROOFS of the family 44_jumps. First what the two jump rules share: the bytes, the meaning in the words of the
statements, and the step, which follows from these two. -/

namespace Sys2Proof.Machine

open Sys2Proof.Claims

/-! ### The bytes of a relative jump, and a step at them -/

/-- The operand byte of an offset that `e` stands for is `e`. -/
theorem encodedAs_of_offset {i : Instr} {op e : Byte} (h : EncodedAs i [op, BitVec.ofInt 8 e.toInt]) :
    EncodedAs i [op, e] := by
  rwa [BitVec.ofInt_toInt] at h

/-- A step at the two stored bytes of a well-formed instruction runs its meaning, PC past them. -/
theorem stepJumps_of_encodedAs {i : Instr} {op e : Byte} {taken : Flags → Bool} (hwf : i.wf = true)
    (henc : EncodedAs i [op, e])
    (hexec : ∀ s : State, exec i s = .next { s with pc := if taken s.flags then s.pc + e.signExtend 16 else s.pc }) :
    StepJumps i op e taken := by
  intro s hr hb
  have hdecode : decode s.launch.stopLength [op, e] = .ok (i, []) := by
    rw [← henc s.launch.stopLength]
    simpa using decodeOfEncodeIsTheInstruction s.launch.stopLength i [] hwf
  obtain ⟨-, hnext, -, -⟩ := stepRunsTheDecodedInstruction s _ i _ hr (fetches_of_bytesAt s hb) hdecode
  exact hnext _ (hexec _)

/-! ### The conditional jumps, for every condition -/

section
variable {i : Instr} (cc : Cond) {e : Byte} (h : i.form = .jrCond cc e.toInt)
include h

theorem encodedAs_of_jrCond : EncodedAs i [0b001#3 ++ cc.code ++ 0b000#3, e] :=
  encodedAs_of_offset (encodedAs_of_form h nofun)

theorem exec_of_jrCond (s : State) :
    exec i s = .next { s with pc := if condHolds s.flags cc then s.pc + e.signExtend 16 else s.pc } :=
  (exec_of_form h s).trans (runForm_of_unread 0#8 rfl nofun)

/-- A jump that is not taken leaves the state as it is, whatever proposition `p` says that the condition holds. -/
theorem exec_of_jrCond_iff {s : State} {p : Prop} [Decidable p] (hp : condHolds s.flags cc = true ↔ p) :
    exec i s = .next (if p then { s with pc := s.pc + e.signExtend 16 } else s) := by
  simp only [exec_of_jrCond cc h, hp]
  split <;> rfl

theorem stepJumps_of_jrCond : StepJumps i (0b001#3 ++ cc.code ++ 0b000#3) e (condHolds · cc) :=
  have hwf : i.wf = true := by rw [wf_eq_offsetOk, h]; exact offsetInRange_toInt e
  stepJumps_of_encodedAs hwf (encodedAs_of_jrCond cc h) (exec_of_jrCond cc h)

end

/-! ### The jumps -/

/-- Settles O31: the bytes and the meaning from the rule, and the step from both. -/
theorem jrAddsTheSignedOffset : Obligations.JrAddsTheSignedOffset := by
  have henc (e : Byte) : EncodedAs (.jrR8 e.toInt) [0b00011000#8, e] :=
    encodedAs_of_offset (encodedAs_of_form rfl nofun)
  have hexec (e : Byte) (s : State) :
      exec (.jrR8 e.toInt) s = .next { s with pc := s.pc + e.signExtend 16 } := exec_of_form rfl s
  exact ⟨fun e s => ⟨henc e, hexec e s⟩,
    fun e => stepJumps_of_encodedAs (offsetInRange_toInt e) (henc e) (hexec e), operandFetchFaults _⟩

/-- Settles O32: the four conditions of the one rule. -/
theorem jrConditional : Obligations.JrConditional := by
  refine ⟨?_, fun e => ⟨stepJumps_of_jrCond .nz rfl, stepJumps_of_jrCond .z rfl,
    stepJumps_of_jrCond .nc rfl, stepJumps_of_jrCond .c rfl⟩, fun cc => operandFetchFaults _⟩
  rintro e s _ rfl
  have hclear (b : Bool) : (!b) = true ↔ b = false := iff_of_eq (Bool.not_eq_true' b)
  exact ⟨⟨exec_of_jrCond_iff .nz rfl (hclear s.flags.z), encodedAs_of_jrCond .nz rfl⟩,
    ⟨exec_of_jrCond_iff .z rfl .rfl, encodedAs_of_jrCond .z rfl⟩,
    ⟨exec_of_jrCond_iff .nc rfl (hclear s.flags.c), encodedAs_of_jrCond .nc rfl⟩,
    ⟨exec_of_jrCond_iff .c rfl .rfl, encodedAs_of_jrCond .c rfl⟩⟩

end Sys2Proof.Machine

/-! PROOFS of the family 45_bcd_flags. First what DAA and CPL compute, in naturals; `daaAfterAdd_eq` has DAA's add path
already (45_bcd_flags.md R220, R221). -/

namespace Sys2Proof.Machine

/-! ### DAA and CPL, in naturals -/

/-- Taking a correction off is adding what it lacks of 2^8. -/
theorem daaAfterSub_eq (f : Flags) (a : Byte) :
    daaAfterSub f a =
      (BitVec.ofNat 8 (a.toNat + (if f.c = true then 256 - 0x60 else 0) + (if f.h = true then 256 - 0x06 else 0)),
        f.c) := by
  refine Prod.ext (BitVec.eq_of_toNat_eq ?_) rfl
  rw [BitVec.toNat_ofNat, daaAfterSub]
  split_ifs <;> bv_omega

/-- With N clear, DAA's result and C are those of the add path. -/
theorem daa_of_n_clear {f : Flags} (hn : f.n = false) (a : Byte) :
    ((daa f a).res, (daa f a).flags.c) = daaAfterAdd f a := by
  simp [daa, hn]

/-- With N set, DAA's result and C are those of the subtract path. -/
theorem daa_of_n_set {f : Flags} (hn : f.n = true) (a : Byte) :
    ((daa f a).res, (daa f a).flags.c) = daaAfterSub f a := by
  simp [daa, hn]

/-- On both paths Z tests the result, N is kept and H is cleared. -/
theorem daa_flags (f : Flags) (a : Byte) :
    (daa f a).flags =
      { z := decide ((daa f a).res.toNat = 0), n := f.n, h := false, c := (daa f a).flags.c } := by
  have hz : (daa f a).res = 0#8 ↔ (daa f a).res.toNat = 0 := BitVec.toNat_inj.symm
  rw [← decide_eq_decide.mpr hz]
  rfl

theorem not_eq_ofNat (a : Byte) : ~~~a = BitVec.ofNat 8 (255 - a.toNat) := by
  bv_omega

/-! ### The instructions -/

/-- Settles O33: the bytes and the meaning from the rule, the result and C from the path that N chooses. -/
theorem daaAdjusts : Obligations.DaaAdjusts := by
  refine ⟨encodedAs_of_form rfl nofun, ?_⟩
  rintro s _ rfl
  refine ⟨_, exec_of_form rfl s, ?_, fun hn => ?_, fun hn => ?_⟩
  · exact congrArg (State.setFlags _) (daa_flags s.flags s.a)
  · obtain ⟨hres, hc⟩ := Prod.ext_iff.mp ((daa_of_n_clear hn s.a).trans (daaAfterAdd_eq s.flags s.a))
    exact ⟨congrArg BitVec.toNat hres, (Bool.eq_iff_iff.mp hc).trans decide_eq_true_iff⟩
  · obtain ⟨hres, hc⟩ := Prod.ext_iff.mp ((daa_of_n_set hn s.a).trans (daaAfterSub_eq s.flags s.a))
    exact ⟨congrArg BitVec.toNat hres, hc⟩

/-- Settles O35: the bytes and the meaning from the rule, the complement in naturals. -/
theorem cplComplementsA : Obligations.CplComplementsA := by
  refine ⟨encodedAs_of_form rfl nofun, fun s => ?_⟩
  rw [← not_eq_ofNat]
  exact exec_of_form rfl s

/-- Settles O36: the bytes and the meanings from the two rules. -/
theorem scfCcfWriteCarry : Obligations.ScfCcfWriteCarry :=
  ⟨⟨encodedAs_of_form rfl nofun, encodedAs_of_form rfl nofun⟩,
    fun s => ⟨exec_of_form rfl s, exec_of_form rfl s⟩⟩

end Sys2Proof.Machine

/-! PROOFS of the family 46_misc. First an opcode fetch beyond the ROM (60_exceptions.md R302), a step at the stored
bytes of STOP, however many STOP_LENGTH makes them, and what an unbound instruction's rule says of its byte and its
meaning under each policy (46_misc.md R241, R242). -/

namespace Sys2Proof.Machine

open Sys2Proof.Claims

/-! ### The opcode fetch, STOP and the unbound opcodes -/

/-- A running machine whose opcode byte is beyond the ROM stops there, nothing else changed. -/
theorem step_of_opcode_beyondRom {s : State} (hr : s.haltedBy = .none) (hb : busRead s s.pc = .beyondRom) :
    step s = .fault (.cartRange s.pc (stoppedAt s s.pc)) := by
  rw [step_running hr, runStep, fetchInstr, fetch8_beyondRom hb]
  rfl

/-- A step at stored bytes that decode to STOP moves PC past them and advances the PPU, and does nothing else. -/
theorem step_of_stopBytes {s : State} {bytes : List Byte} (hr : s.haltedBy = .none) (hb : BytesAt s s.pc bytes)
    (hd : decode s.launch.stopLength bytes = .ok (.stop, [])) :
    step s = .next (advancePpu (stepCost .stop { s with pc := s.pc + BitVec.ofNat 16 bytes.length })
      { s with pc := s.pc + BitVec.ofNat 16 bytes.length }) := by
  obtain ⟨-, hnext, -, -⟩ := stepRunsTheDecodedInstruction s bytes .stop _ hr (fetches_of_bytesAt s hb) hd
  exact hnext _ (exec_of_form rfl _)

/-- The byte of an unbound instruction is one that no rule binds: it decodes to that instruction. -/
theorem unboundByte_of_form {i : Instr} {op : Byte} (h : i.form = .unbound op) : unboundByte op = true := by
  have hwf : i.wf = true := by rw [wf_eq_offsetOk, h]; rfl
  have hop : i.opcode = op := by rw [Instr.opcode, h]; rfl
  obtain ⟨hdecode, -⟩ := opcodeMap i hwf
  rw [hop] at hdecode
  exact (unboundByte_iff_form op _ _).mpr ((congrArg Instr.form hdecode).trans h)

theorem unboundOp_of_nop {s : State} (op : Byte) (hp : s.launch.unboundPolicy = .nop) : unboundOp op s = .next s := by
  rw [unboundOp, hp]

theorem unboundOp_of_refuse {s : State} (op : Byte) (hp : s.launch.unboundPolicy = .refuse) :
    unboundOp op s = refuseStop op s := by
  rw [unboundOp, hp]

/-! ### The statements -/

/-- Settles O37: the byte and the meaning from the rule; the fault is the opcode fetch's, whatever the opcode. -/
theorem nopDoesNothing : Obligations.NopDoesNothing :=
  ⟨encodedAs_of_form rfl nofun, exec_of_form rfl, fun _ => step_of_opcode_beyondRom⟩

/-- Settles O38: the meaning from the rule, and the step from what STOP's bytes decode to under each STOP_LENGTH. -/
theorem stopDoesNotStop : Obligations.StopDoesNotStop := by
  refine ⟨exec_of_form rfl, fun s hr hb => ⟨fun hn => ?_, fun hn v hv => ?_⟩, operandFetchFaults _⟩
  · exact step_of_stopBytes (bytes := [0b00010000#8]) hr ⟨hb, trivial⟩ (by rw [hn]; rfl)
  · exact step_of_stopBytes (bytes := [0b00010000#8, v]) hr ⟨hb, hv, trivial⟩ (by rw [hn]; rfl)

/-- Settles O39: the byte and the meaning from the one rule of the unbound opcodes, by policy. -/
theorem unboundOpcodePolicies : Obligations.UnboundOpcodePolicies := fun _ op h =>
  ⟨encodedAs_of_form h nofun, unboundByte_of_form h, fun s =>
    ⟨fun hp => (exec_of_form h s).trans (unboundOp_of_nop op hp),
      fun hp => (exec_of_form h s).trans (unboundOp_of_refuse op hp)⟩⟩

end Sys2Proof.Machine

/-! PROOFS of the family 60_exceptions. First the PPU's loop run to its end (60_exceptions.md R311), the place in the
frame that it keeps (R313), and what a step costs (70_reset_and_hazards.md R363); then what an instruction that does not
go on stops with (60_exceptions.md R301 to R303), and how a run ends (R316). -/

namespace Sys2Proof.Machine

open Sys2Proof.Claims

/-! ### The loop run to its end -/

/-- The PPU with `n` more cycles on its clocks, the loop not yet run. -/
def Ppu.add (p : Ppu) (n : Nat) : Ppu := { p with modeClock := p.modeClock + n, total := p.total + n }

/-- The loop of R311 run to its end: as many rounds as the clock shows are enough. -/
def Ppu.settled (p : Ppu) : Ppu := Ppu.settle p.modeClock p

theorem Ppu.cycle_eq_settled {p : Ppu} {t : Nat} (h : p.total ≤ t) : p.cycle t = (p.add (t - p.total)).settled := by
  rw [Ppu.cycle, Ppu.settled, Ppu.add, Nat.add_sub_cancel' h]

theorem Ppu.settled_of_below {p : Ppu} (h : p.modeClock < p.mode.budget) : p.settled = p := Ppu.settle_below _ h

theorem Ppu.settled_round {p : Ppu} (h : p.mode.budget ≤ p.modeClock) : p.settled = p.round.settled := by
  have hclock := p.round_modeClock
  have hpos := p.mode.budget_pos
  calc p.settled
    _ = Ppu.settle (p.modeClock + 1) p := Ppu.settle_enough le_rfl (Nat.le_succ _)
    _ = Ppu.settle p.modeClock p.round := Ppu.settle_round _ h
    _ = p.round.settled := Ppu.settle_enough (by omega) le_rfl

theorem Ppu.transition_add (p : Ppu) (d : Nat) : (p.add d).transition = p.transition.add d := by
  obtain ⟨mode, clock, line, total⟩ := p
  cases mode <;> rfl

/-- A round that is due may be run before or after the clocks move on. -/
theorem Ppu.round_add {p : Ppu} (h : p.mode.budget ≤ p.modeClock) (d : Nat) : (p.add d).round = p.round.add d := by
  rw [Ppu.round, Ppu.round, ← Ppu.transition_add]
  simp only [Ppu.add, Nat.sub_add_comm h]

/-- The loop may be run before the clocks move on, if it is run again then. -/
theorem Ppu.settled_add_settle (n d : Nat) (p : Ppu) : ((Ppu.settle n p).add d).settled = (p.add d).settled := by
  induction n generalizing p with
  | zero => rfl
  | succ n ih =>
    by_cases hb : p.mode.budget ≤ p.modeClock
    · have hb' : (p.add d).mode.budget ≤ (p.add d).modeClock := Nat.le_add_right_of_le hb
      rw [Ppu.settle_round n hb, ih, Ppu.settled_round hb', Ppu.round_add hb]
    · rw [Ppu.settle_below _ (Nat.lt_of_not_le hb)]

theorem Ppu.cycle_total (p : Ppu) (t : Nat) : (p.cycle t).total = t := Ppu.settle_total _ _

/-- Settles O47: the budgets and the transitions by evaluation, the loop by whether the budget is reached. -/
theorem ppuCycleFollowsTheRules : Obligations.PpuCycleFollowsTheRules := by
  refine ⟨⟨rfl, rfl, rfl, rfl⟩, fun p =>
    ⟨fun hm => by simp [Ppu.transition, hm], fun hm => by simp [Ppu.transition, hm],
      fun hm hl => by simp [Ppu.transition, hm, hl, Config.visibleLines],
      fun hm hl => by simp [Ppu.transition, hm, hl, Config.visibleLines],
      fun hm => by simp [Ppu.transition, hm]⟩, ?_⟩
  rintro p q t ht hq
  have hcycle : p.cycle t = q.settled := by
    rw [Ppu.cycle_eq_settled ht, hq, Ppu.add, Nat.add_sub_cancel' ht]
  refine ⟨fun hb => hcycle.trans (Ppu.settled_of_below hb), fun hb => ?_⟩
  have htotal : q.round.total = t := by rw [Ppu.round, Ppu.transition_total, hq]
  calc p.cycle t
    _ = q.round.settled := hcycle.trans (Ppu.settled_round hb)
    _ = q.round.cycle t := by rw [Ppu.cycle_eq_settled htotal.le, htotal, Nat.sub_self]; rfl

/-- Settles O48: the first advance's loop may as well run with the second's. -/
theorem ppuAdvanceInTwoCallsIsOne : Obligations.PpuAdvanceInTwoCallsIsOne := by
  intro p t u ht hu
  have hadd : (p.add (t - p.total)).add (u - t) = p.add (u - p.total) := by
    simp only [Ppu.add, Nat.add_assoc, show t - p.total + (u - t) = u - p.total by omega]
  calc (p.cycle t).cycle u
    _ = ((p.cycle t).add (u - t)).settled := by rw [Ppu.cycle_eq_settled (by rwa [Ppu.cycle_total]), Ppu.cycle_total]
    _ = ((p.add (t - p.total)).add (u - t)).settled := by
      rw [Ppu.cycle_eq_settled ht]
      exact Ppu.settled_add_settle _ _ _
    _ = p.cycle u := by rw [hadd, Ppu.cycle_eq_settled (ht.trans hu)]

/-! ### The place in the frame -/

@[simp] theorem Ppu.frameCycle_add (p : Ppu) (n : Nat) : (p.add n).frameCycle = p.frameCycle + n := by
  obtain ⟨mode, clock, line, total⟩ := p
  cases mode <;> simp [Ppu.frameCycle, Ppu.add, Nat.add_assoc]

/-- A round keeps the place in the frame: what the mode clock gives up is where the next mode begins, or a whole frame
at the end of VBLANK. -/
theorem Ppu.frameCycle_round {p : Ppu} (h : p.mode.budget ≤ p.modeClock) :
    p.round.frameCycle % frameCycles = p.frameCycle % frameCycles := by
  obtain ⟨mode, clock, line, total⟩ := p
  cases mode with
  | oamScan | vramAccess | vblank =>
    simp only [PpuMode.budget] at h
    simp only [Ppu.round, Ppu.transition, Ppu.frameCycle, PpuMode.budget, frameCycles]
    omega
  | hblank =>
    simp only [PpuMode.budget] at h
    by_cases hl : line + 1 = Config.visibleLines
    · have hlast : line + 1 = 144 := hl
      simp only [Ppu.round, Ppu.transition, Ppu.frameCycle, PpuMode.budget, frameCycles, hl, if_true]
      omega
    · simp only [Ppu.round, Ppu.transition, Ppu.frameCycle, PpuMode.budget, frameCycles, hl, if_false]
      omega

theorem Ppu.frameCycle_settle (n : Nat) (p : Ppu) :
    (Ppu.settle n p).frameCycle % frameCycles = p.frameCycle % frameCycles := by
  induction n generalizing p with
  | zero => rfl
  | succ n ih =>
    by_cases hb : p.mode.budget ≤ p.modeClock
    · rw [Ppu.settle_round n hb, ih, Ppu.frameCycle_round hb]
    · rw [Ppu.settle_below _ (Nat.lt_of_not_le hb)]

/-- A PPU in range is within a frame. -/
theorem Ppu.Ok.frameCycle_lt {p : Ppu} (h : p.Ok) : p.frameCycle < frameCycles := by
  obtain ⟨mode, clock, line, total⟩ := p
  obtain ⟨hclock, hline⟩ := h
  cases mode with
  | oamScan | vramAccess | hblank =>
    have hline : line < 144 := hline
    simp only [PpuMode.budget] at hclock
    simp only [Ppu.frameCycle, frameCycles]
    omega
  | vblank => exact Nat.add_lt_add_left hclock 65664

/-- Cycle `k` of a visible line is in the mode whose part of the line it is. -/
theorem modeAt_of_visibleLine {p : Ppu} {n k : Nat} (hn : n = 456 * p.line + k) (hl : p.line < 144) (hk : k < 456)
    (hmode : if k < 80 then p.mode = .oamScan else if k < 252 then p.mode = .vramAccess else p.mode = .hblank) :
    ModeAt n p := by
  have hline : n / 456 = p.line := by omega
  have hplace : n % 456 = k := by omega
  rw [ModeAt, if_neg (by omega), hline, hplace]
  exact ⟨rfl, hmode⟩

/-- The mode and the line of a PPU in range are those of its place in the frame. -/
theorem Ppu.Ok.modeAt {p : Ppu} (h : p.Ok) : ModeAt p.frameCycle p := by
  obtain ⟨mode, clock, line, total⟩ := p
  obtain ⟨hclock, hline⟩ := h
  cases mode with
  | oamScan =>
    have hlt : clock < 80 := hclock
    exact modeAt_of_visibleLine (k := clock) rfl hline (by omega) (by rw [if_pos hlt])
  | vramAccess =>
    have hlt : clock < 172 := hclock
    exact modeAt_of_visibleLine (k := 80 + clock) (Nat.add_assoc _ _ _) hline (by omega)
      (by rw [if_neg (by omega), if_pos (by omega)])
  | hblank =>
    have hlt : clock < 204 := hclock
    exact modeAt_of_visibleLine (k := 252 + clock) (Nat.add_assoc _ _ _) hline (by omega)
      (by rw [if_neg (by omega), if_neg (by omega)])
  | vblank =>
    have hend : 65664 ≤ (Ppu.mk .vblank clock line total).frameCycle := Nat.le_add_right _ _
    rw [ModeAt, if_pos hend]
    exact ⟨rfl, hline⟩

/-- The PPU is in range and at the place in the frame that its cycle count gives (60_exceptions.md R313). -/
def Ppu.InPhase (p : Ppu) : Prop := p.Ok ∧ p.frameCycle = p.total % frameCycles

theorem Ppu.InPhase.cycle {p : Ppu} (h : p.InPhase) {t : Nat} (ht : p.total ≤ t) : (p.cycle t).InPhase := by
  obtain ⟨hok, hphase⟩ := h
  refine ⟨hok.cycle t, ?_⟩
  calc (p.cycle t).frameCycle
    _ = (p.cycle t).frameCycle % frameCycles := (Nat.mod_eq_of_lt (hok.cycle t).frameCycle_lt).symm
    _ = (p.frameCycle + (t - p.total)) % frameCycles := by
      rw [Ppu.cycle_eq_settled ht, Ppu.settled, Ppu.frameCycle_settle, Ppu.frameCycle_add]
    _ = t % frameCycles := by rw [hphase, Nat.mod_add_mod, Nat.add_sub_cancel' ht]
    _ = (p.cycle t).total % frameCycles := by rw [Ppu.cycle_total]

theorem Ppu.InPhase.modeAt {p : Ppu} (h : p.InPhase) : ModeAt (p.total % frameCycles) p := h.2 ▸ h.1.modeAt

/-- Settles O49: the PPU is in phase at power-on, and every advance keeps it so. -/
theorem ppuTimingFromPowerOn : Obligations.PpuTimingFromPowerOn := by
  intro t
  have hphase : (Ppu.powerOn.cycle t).InPhase := Ppu.InPhase.cycle ⟨by decide, rfl⟩ (Nat.zero_le t)
  have htotal : (Ppu.powerOn.cycle t).total = t := Ppu.cycle_total _ t
  have hmode := hphase.modeAt
  obtain ⟨hok, hframe⟩ := hphase
  rw [htotal] at hframe hmode
  exact ⟨htotal, hok, hframe, hmode⟩

/-! ### What a step costs -/

/-- The condition that a rule's jump waits for, if it is a conditional jump's. -/
def jumpCondition : Form → Option Cond
  | .jrCond cc _ => some cc
  | _ => none

theorem jumpTaken_eq (i : Instr) (s : State) : jumpTaken i s = (jumpCondition i.form).any (condHolds s.flags) := by
  unfold jumpTaken
  cases i.form <;> rfl

theorem jumpCondition_decodeInstr (op o1 o2 : Byte) :
    jumpCondition (decodeInstr op o1 o2).form = jumpCondition (decodeInstr op 0#8 0#8).form := by
  rw [form_decodeInstr]
  cases (decodeInstr op 0#8 0#8).form <;> rfl

/-- Four opcode bytes wait for a condition, each for its own. -/
theorem jumpCondition_of_opcode (op : Byte) :
    jumpCondition (decodeInstr op 0#8 0#8).form =
      if op = 0x20#8 then some .nz else if op = 0x28#8 then some .z else if op = 0x30#8 then some .nc
      else if op = 0x38#8 then some .c else none := by
  revert op
  decide

/-- Whether the decoded instruction jumps on its condition is decided by its opcode byte and the flags. -/
theorem jumpTaken_decodeOperands (op : Byte) (operands : List Byte) (s : State) :
    jumpTaken (decodeOperands op operands) s = jumpsOn op s.flags := by
  rw [jumpTaken_eq, decodeOperands, jumpCondition_decodeInstr, jumpCondition_of_opcode]
  split_ifs with hnz hz hnc hc
  · simp [jumpsOn, condHolds, hnz]
  · simp [jumpsOn, condHolds, hz]
  · simp [jumpsOn, condHolds, hnc]
  · simp [jumpsOn, condHolds, hc]
  · simp [jumpsOn, hnz, hz, hnc, hc]

theorem stepCost_of_perStep {s : State} {n : Nat} (h : s.launch.cycleCost = .perStep n) (i : Instr) :
    stepCost i s = n := by
  rw [stepCost, h]

/-- A table prices what is decoded by its opcode byte and the flags. -/
theorem stepCost_of_perOpcode {s : State} {rows : List CostRow} (h : s.launch.cycleCost = .perOpcode rows) (op : Byte)
    (operands : List Byte) :
    stepCost (decodeOperands op operands) s = tableCost rows op (jumpsOn op s.flags) := by
  have hop : (decodeOperands op operands).opcode = op := opcode_decodeInstr _ _ _
  rw [stepCost, h, ← jumpTaken_decodeOperands op operands]
  exact congrArg (tableCost rows · _) hop

/-- Rows of other opcodes do not price an opcode. -/
theorem tableCost_append {before : List CostRow} {op : Byte} (h : ∀ r ∈ before, r.opcode ≠ op)
    (rows : List CostRow) (taken : Bool) : tableCost (before ++ rows) op taken = tableCost rows op taken := by
  induction before with
  | nil => rfl
  | cons row before ih =>
    obtain ⟨hrow, hbefore⟩ := List.forall_mem_cons.mp h
    rw [List.cons_append, tableCost, if_neg hrow, ih hbefore]

theorem tableCost_of_firstRow {before : List CostRow} {row : CostRow} (h : ∀ r ∈ before, r.opcode ≠ row.opcode)
    (after : List CostRow) (taken : Bool) :
    tableCost (before ++ row :: after) row.opcode taken = if taken then row.takenCost else row.cost := by
  rw [tableCost_append h, tableCost, if_pos rfl]

theorem tableCost_of_unlisted {rows : List CostRow} {op : Byte} (h : ∀ r ∈ rows, r.opcode ≠ op) (taken : Bool) :
    tableCost rows op taken = Config.unlistedCost op := by
  have happend := tableCost_append h [] taken
  rwa [List.append_nil] at happend

/-- A step that goes on advances the PPU by the cost of what it fetched, priced by the state before it. -/
theorem step_next_ppu {s t : State} (h : step s = .next t) :
    ∃ op operands u, Fetches s (op :: operands) u ∧ u.flags = s.flags ∧ u.launch = s.launch ∧
      t.ppu = s.ppu.cycle (s.ppu.total + stepCost (decodeOperands op operands) u) := by
  obtain ⟨-, op, operands, u, v, hf, -, he, rfl⟩ := step_next h
  obtain ⟨hppu, -, -⟩ := exec_next_machine he
  have hu := hf.state_eq
  refine ⟨op, operands, u, hf, by rw [hu], hf.launch_eq, ?_⟩
  rw [advancePpu_ppu, hppu, hu]

/-- Settles O50: the step is one advance of the PPU by the step's cost, and every advance keeps the PPU in phase. -/
theorem stepKeepsThePpuInPhase : Obligations.StepKeepsThePpuInPhase := by
  intro s t hok hframe h
  obtain ⟨op, operands, u, hf, hflags, hlaunch, hppu⟩ := step_next_ppu h
  have hphase : t.ppu.InPhase := by
    rw [hppu]
    exact Ppu.InPhase.cycle ⟨hok, hframe⟩ (Nat.le_add_right _ _)
  have htotal : t.ppu.total = s.ppu.total + stepCost (decodeOperands op operands) u := by
    rw [hppu, Ppu.cycle_total]
  refine ⟨hphase.1, hphase.2, hphase.modeAt, fun n hn => ?_, fun rows op' u' hrows hop => ?_⟩
  · rw [htotal, stepCost_of_perStep (hlaunch ▸ hn)]
  · obtain rfl := hop.head_eq hf
    rw [htotal, stepCost_of_perOpcode (hlaunch ▸ hrows), hflags]
    refine ⟨?_, fun hnone => by rw [tableCost_of_unlisted hnone]⟩
    rintro before after row rfl rfl hfirst
    rw [tableCost_of_firstRow hfirst]

/-! ### What an instruction that does not go on stops with -/

/-- An instruction faults only at its data read, which is then beyond the ROM, with nothing changed but the mark. -/
theorem exec_fault {i : Instr} {s : State} {f : Fault} (h : exec i s = .fault f) :
    ∃ w, readFrom s i.form = some w ∧ busRead s w = .beyondRom ∧ f = .cartRange w (stoppedAt s w) := by
  rcases dataRead_or_beyondRom s (readFrom s i.form) with ⟨v, u, hd⟩ | ⟨w, hw, hb⟩
  · by_cases hu : ∃ op, i.form = .unbound op
    · obtain ⟨op, hop⟩ := hu
      rw [exec_of_form hop, runForm] at h
      cases hp : s.launch.unboundPolicy with
      | nop => rw [unboundOp_of_nop op hp] at h; cases h
      | refuse => rw [unboundOp_of_refuse op hp] at h; cases h
    · have hnext := exec_next_iff.mpr ⟨fun op hop => absurd ⟨op, hop⟩ hu, v, u, hd, rfl⟩
      cases h.symm.trans hnext
  · rw [exec_eq_runForm, runForm_beyondRom hw hb] at h
    exact ⟨w, hw, hb, (Host.Outcome.fault.inj h).symm⟩

/-- An instruction is refused only where its opcode is unbound and the policy is to refuse it, with nothing changed but
the mark. -/
theorem exec_refused {i : Instr} {s : State} {r : Refusal} (h : exec i s = .refused r) :
    ∃ op, i.form = .unbound op ∧ s.launch.unboundPolicy = .refuse ∧
      r = .unboundOpcode op { s with haltedBy := .refused (.unboundOpcode op) } := by
  rcases exec_cases i s with ⟨t, hnext⟩ | ⟨w, -, hfault⟩ | ⟨op, hform, hpolicy, hrefused⟩
  · cases h.symm.trans hnext
  · cases h.symm.trans hfault
  · exact ⟨op, hform, hpolicy, Host.Outcome.refused.inj (h.symm.trans hrefused)⟩

theorem finishStep_eq_fault_iff {cost : Nat} {out : Out} {f : Fault} :
    finishStep cost out = .fault f ↔ out = .fault f := by
  cases out <;> simp [finishStep]

theorem finishStep_eq_refused_iff {cost : Nat} {out : Out} {r : Refusal} :
    finishStep cost out = .refused r ↔ out = .refused r := by
  cases out <;> simp [finishStep]

theorem operandCount_le_two (n : StopLength) (op : Byte) : operandCount n op ≤ 2 := by
  revert op
  cases n <;> decide

theorem operandCount_of_unbound (n : StopLength) {op : Byte} (h : unboundByte op = true) : operandCount n op = 0 := by
  revert op
  cases n <;> decide

/-- An instruction not yet whole has at most two of its bytes. -/
theorem PartOfInstruction.length_le_two {n : StopLength} {got : List Byte} (h : PartOfInstruction n got) :
    got.length ≤ 2 := by
  cases got with
  | nil => exact Nat.zero_le _
  | cons op rest => exact (Nat.succ_le_of_lt h).trans (operandCount_le_two n op)

/-- Settles O8: the opcode fetch and the operand fetches of every opcode. -/
theorem fetchFaultIsPrecise : Obligations.FetchFaultIsPrecise :=
  ⟨fun _ => step_of_opcode_beyondRom, operandFetchFaults⟩

/-- Settles O9: a step faults at the data read of the instruction it fetched, or at a byte of one not yet whole. -/
theorem everyFaultIsAPreciseCartRange : Obligations.EveryFaultIsAPreciseCartRange := by
  intro s f hr h
  rcases step_cases hr with ⟨op, operands, u, hf, hl, hstep⟩ | ⟨got, u, hf, hpart, hb, hstep⟩
  · obtain ⟨w, hread, hb, rfl⟩ := exec_fault (finishStep_eq_fault_iff.mp (hstep.symm.trans h))
    rw [hf.busRead_eq] at hb
    obtain ⟨hwindow, hbeyond⟩ := beyondRom_bounds hb
    have hlength : (op :: operands).length ≤ 3 := by
      rw [List.length_cons, hl]
      exact Nat.succ_le_succ (operandCount_le_two _ op)
    have hdecode : decode s.launch.stopLength (op :: operands) = .ok (decodeOperands op operands, []) :=
      decode_eq_ok_iff.mpr ⟨op, operands, by rw [List.append_nil], hl, rfl⟩
    exact ⟨op :: operands, u, w, hf, hlength, hf.state_eq, hwindow, hbeyond, hb, rfl, .inr ⟨_, hdecode, hread⟩⟩
  · obtain ⟨hwindow, hbeyond⟩ := beyondRom_bounds hb
    exact ⟨got, u, u.pc, hf, hpart.length_le_two.trans (by decide), hf.state_eq, hwindow, hbeyond, hb,
      Host.Outcome.fault.inj (h.symm.trans hstep), .inl ⟨hpart, rfl⟩⟩

/-- Settles O10: the step's instruction is the one refused, and an unbound opcode has no operand bytes. -/
theorem refusalOnlyForUnboundUnderRefuse : Obligations.RefusalOnlyForUnboundUnderRefuse := by
  intro s r hr h
  rcases step_cases hr with ⟨op, operands, u, hf, hl, hstep⟩ | ⟨got, u, -, -, -, hstep⟩
  · obtain ⟨op', hform, hpolicy, rfl⟩ := exec_refused (finishStep_eq_refused_iff.mp (hstep.symm.trans h))
    obtain rfl : op' = op := by
      have hop : (decodeOperands op operands).opcode = op := opcode_decodeInstr _ _ _
      rwa [Instr.opcode, hform] at hop
    have hunbound := unboundByte_of_form hform
    rw [operandCount_of_unbound _ hunbound, List.length_eq_zero_iff] at hl
    subst hl
    exact ⟨hf.launch_eq ▸ hpolicy, op', u, hunbound, hf, hf.state_eq, rfl⟩
  · cases h.symm.trans hstep

/-! ### How a run ends -/

/-- A run may begin with a step. -/
theorem reaches_of_step {s t u : State} (hstep : step s = .next t) (h : Reaches t u) : Reaches s u := by
  induction h with
  | here => exact .step (.here s) hstep
  | step _ hnext ih => exact .step ih hnext

/-- How a run ends after the outcome of a step away from END_PC, `quit` steps being left. -/
def runAfter (endPc : Word) (quit : Nat) : Out → RunEnd
  | .next t => runTo endPc quit t
  | .fault f => .fault f
  | .refused r => .refused r

section
variable {endPc : Word} {s : State}

theorem endAt_of_endPc (hr : s.haltedBy = .none) (h : s.pc = endPc) : endAt endPc s = some (.ended s) := by
  rw [endAt, hr]
  exact if_pos h

theorem endAt_of_away (hr : s.haltedBy = .none) (h : s.pc ≠ endPc) : endAt endPc s = none := by
  rw [endAt, hr]
  exact if_neg h

/-- A stopped machine's run has ended as a step of it does: no such step goes on, so `q` is free. -/
theorem endAt_of_halted (q : Nat) (hr : s.haltedBy ≠ .none) : endAt endPc s = some (runAfter endPc q (step s)) := by
  unfold endAt step systemStep
  cases hm : s.haltedBy with
  | none => exact absurd hm hr
  | fault | refused => rfl

theorem runTo_of_endAt {e : RunEnd} (quit : Nat) (h : endAt endPc s = some e) : runTo endPc quit s = e := by
  cases quit <;> simp only [runTo, h, Option.getD_some]

theorem runTo_of_halted (quit q : Nat) (hr : s.haltedBy ≠ .none) :
    runTo endPc quit s = runAfter endPc q (step s) := runTo_of_endAt quit (endAt_of_halted q hr)

theorem runTo_zero_of_away (hr : s.haltedBy = .none) (h : s.pc ≠ endPc) : runTo endPc 0 s = .stoppedByHost s := by
  rw [runTo, endAt_of_away hr h]
  rfl

/-- A run with a step left takes it, unless the machine is running and at END_PC. -/
theorem runTo_succ (quit : Nat) (h : s.haltedBy = .none → s.pc ≠ endPc) :
    runTo endPc (quit + 1) s = runAfter endPc quit (step s) := by
  by_cases hr : s.haltedBy = .none
  · rw [runTo, endAt_of_away hr (h hr)]
    cases step s <;> rfl
  · exact runTo_of_halted _ _ hr

end

/-- What each end of a run from `s` to END_PC says of the machine (60_exceptions.md R316). -/
def EndsAs (endPc : Word) (s : State) : RunEnd → Prop
  | .ended t => Reaches s t ∧ t.pc = endPc ∧ t.haltedBy = .none
  | .stoppedByHost t => Reaches s t ∧ t.pc ≠ endPc ∧ t.haltedBy = .none
  | .fault f => ∃ t, Reaches s t ∧ step t = .fault f
  | .refused r => ∃ t, Reaches s t ∧ step t = .refused r

theorem EndsAs.of_step {endPc : Word} {s t : State} {e : RunEnd} (hstep : step s = .next t) (h : EndsAs endPc t e) :
    EndsAs endPc s e := by
  cases e with
  | ended | stoppedByHost => exact ⟨reaches_of_step hstep h.1, h.2⟩
  | fault | refused =>
    obtain ⟨u, hreach, hstop⟩ := h
    exact ⟨u, reaches_of_step hstep hreach, hstop⟩

theorem endsAs_runAfter {endPc : Word} {quit : Nat} {s : State}
    (h : ∀ t, step s = .next t → EndsAs endPc t (runTo endPc quit t)) :
    EndsAs endPc s (runAfter endPc quit (step s)) := by
  cases hstep : step s with
  | next t => exact (h t hstep).of_step hstep
  | fault f => exact ⟨s, .here s, hstep⟩
  | refused r => exact ⟨s, .here s, hstep⟩

/-- Every run ends as it says. -/
theorem endsAs_runTo (endPc : Word) (quit : Nat) (s : State) : EndsAs endPc s (runTo endPc quit s) := by
  induction quit generalizing s with
  | zero =>
    by_cases hr : s.haltedBy = .none
    · by_cases h : s.pc = endPc
      · rw [runTo_of_endAt _ (endAt_of_endPc hr h)]
        exact ⟨.here s, h, hr⟩
      · rw [runTo_zero_of_away hr h]
        exact ⟨.here s, h, hr⟩
    · rw [runTo_of_halted 0 0 hr]
      exact endsAs_runAfter fun t hstep => absurd (running_of_step_next hstep) hr
  | succ quit ih =>
    by_cases hend : s.haltedBy = .none ∧ s.pc = endPc
    · obtain ⟨hr, h⟩ := hend
      rw [runTo_of_endAt _ (endAt_of_endPc hr h)]
      exact ⟨.here s, h, hr⟩
    · rw [runTo_succ quit (not_and.mp hend)]
      exact endsAs_runAfter fun t _ => ih t

theorem endsAs_of_runTo_eq {endPc : Word} {quit : Nat} {s : State} {e : RunEnd} (h : runTo endPc quit s = e) :
    EndsAs endPc s e := h ▸ endsAs_runTo endPc quit s

/-- Settles O59: what each end says by induction on the bound, and how a run goes on by its first boundary. -/
theorem runEndsAtEndPc : Obligations.RunEndsAtEndPc := by
  have hgo {endPc : Word} {s : State} {out : Out} (quit : Nat) (h : s.pc ≠ endPc) (hstep : step s = out) :
      runTo endPc (quit + 1) s = runAfter endPc quit out := hstep ▸ runTo_succ quit fun _ => h
  have hstopped {endPc : Word} {s : State} {out : Out} (quit : Nat) (hr : s.haltedBy ≠ .none) (hstep : step s = out) :
      runTo endPc quit s = runAfter endPc 0 out := hstep ▸ runTo_of_halted quit 0 hr
  exact ⟨fun _ _ _ _ h => endsAs_of_runTo_eq h, fun _ _ _ _ h => endsAs_of_runTo_eq h,
    fun _ _ _ _ h => endsAs_of_runTo_eq h, fun _ _ _ _ h => endsAs_of_runTo_eq h,
    fun _ quit _ hr h => runTo_of_endAt quit (endAt_of_endPc hr h), fun _ _ => runTo_zero_of_away,
    fun _ quit _ _ => hgo quit, fun _ quit _ _ => hgo quit, fun _ quit _ _ => hgo quit,
    fun _ quit _ hr => ⟨fun _ => hstopped quit hr, fun _ => hstopped quit hr⟩⟩

end Sys2Proof.Machine

/-! PROOFS of the family 70_reset_and_hazards. First what a store filled at launch reads as (R355) and when a
launch is admitted (R358); then the statements. -/

namespace Sys2Proof.Machine

/-! ### A store filled at launch -/

/-- A filled store reads as the bytes it was given: at every index inside its size, and, when all of them lie inside it,
beyond it too. -/
theorem Memory.read_ofBytes {size n : Nat} {bytes : List Byte} (h : n < size ∨ bytes.length ≤ size) :
    Memory.read (Memory.ofBytes size bytes) n = bytes.getD n 0#8 := by
  rw [Memory.ofBytes, Memory.read_fill size bytes [] 0 rfl n, Nat.sub_zero]
  by_cases hn : n < bytes.length
  · rw [if_pos ⟨n.zero_le, by omega, hn⟩]
  · rw [if_neg fun hin => hn hin.2.2, List.getD_eq_default _ _ (Nat.le_of_not_lt hn)]
    rfl

/-- Filling an empty store with zeros lists nothing: zero is what an unlisted index reads as. -/
theorem Memory.fill_nil_of_zeros {bytes : List Byte} (size : Nat) (h : ∀ v ∈ bytes, v = 0#8) (i : Nat) :
    Memory.fill size [] i bytes = [] := by
  induction bytes generalizing i with
  | nil => rfl
  | cons v bytes ih =>
    obtain ⟨rfl, hrest⟩ := List.forall_mem_cons.mp h
    have hwrite : Memory.write [] i 0#8 = [] := rfl
    rw [Memory.fill, hwrite, ite_self, ih hrest]

theorem Memory.ofBytes_of_zeros {bytes : List Byte} (size : Nat) (h : ∀ v ∈ bytes, v = 0#8) :
    Memory.ofBytes size bytes = [] := Memory.fill_nil_of_zeros size h 0

/-! ### When a launch is admitted -/

/-- The table of external RAM sizes has six entries (20_memory.md R70). -/
theorem exists_extRamSizeOf_iff (code : Byte) : (∃ size, extRamSizeOf code = some size) ↔ code.toNat ≤ 5 := by
  rw [← Option.isSome_iff_exists]
  revert code
  decide

/-- The premises of a launch on its two ROMs (70_reset_and_hazards.md R358), `size` being the header's table entry. -/
structure LaunchAdmitted (bootRom rom : List Byte) (size : Nat) : Prop where
  bootRom_length : bootRom.length = Config.bootRomSize
  rom_min : Config.minRomSize ≤ rom.length
  rom_max : rom.length ≤ Config.maxRomSize
  ramSize : extRamSizeOf (rom.getD 0x149 0#8) = some size

section
variable {bootRom rom : List Byte} {size : Nat} {p : Params} {st : Start} {s : State}

theorem LaunchAdmitted.launch_eq (h : LaunchAdmitted bootRom rom size) (p : Params) (st : Start) :
    launch bootRom rom p st = .ok (launched bootRom rom size p st) := by
  obtain ⟨hboot, hmin, hmax, hsize⟩ := h
  rw [launch, if_neg (not_not.mpr hboot), if_neg hmin.not_gt, if_neg hmax.not_gt, hsize]

/-- A launch gives a machine exactly when it is admitted, and the machine is the launched one. -/
theorem launch_eq_ok_iff :
    launch bootRom rom p st = .ok s ↔
      ∃ size, LaunchAdmitted bootRom rom size ∧ s = launched bootRom rom size p st := by
  constructor
  · intro h
    unfold launch at h
    split_ifs at h with hboot hmin hmax
    split at h
    next size hsize =>
      exact ⟨size, ⟨not_not.mp hboot, not_lt.mp hmin, not_lt.mp hmax, hsize⟩, (Except.ok.inj h).symm⟩
    next => cases h
  · rintro ⟨size, hadm, rfl⟩
    exact hadm.launch_eq p st

/-- What an admitted launch fixes meets the premises that the invariant keeps of them. -/
theorem LaunchAdmitted.launch_ok (h : LaunchAdmitted bootRom rom size) (p : Params) (st : Start) :
    (launched bootRom rom size p st).launch.Ok :=
  ⟨Memory.ofBytes_ok _ bootRom, Memory.ofBytes_ok _ rom, ⟨h.rom_min, h.rom_max⟩,
    (congrArg extRamSizeOf (Memory.read_ofBytes (.inr le_rfl))).trans h.ramSize⟩

theorem launched_storesOk (bootRom rom : List Byte) (size : Nat) (p : Params) (st : Start) :
    (launched bootRom rom size p st).StoresOk :=
  ⟨Memory.ofBytes_ok _ st.extRam, Memory.ofBytes_ok _ st.vram, Memory.ofBytes_ok _ st.wram,
    Memory.ofBytes_ok _ st.oam, Memory.ofBytes_ok _ st.hram⟩

theorem LaunchAdmitted.inv (h : LaunchAdmitted bootRom rom size) (p : Params) (hppu : st.ppu.Ok) :
    (launched bootRom rom size p st).Inv :=
  ⟨launched_storesOk bootRom rom size p st, h.launch_ok p st, hppu⟩

/-- The premises as the spec's numbers. -/
theorem exists_launchAdmitted_iff :
    (∃ size, LaunchAdmitted bootRom rom size) ↔
      bootRom.length = 256 ∧ 0x14D ≤ rom.length ∧ rom.length ≤ 0x10000 ∧ (rom.getD 0x149 0).toNat ≤ 5 := by
  rw [← exists_extRamSizeOf_iff]
  exact ⟨fun ⟨size, hboot, hmin, hmax, hsize⟩ => ⟨hboot, hmin, hmax, size, hsize⟩,
    fun ⟨hboot, hmin, hmax, size, hsize⟩ => ⟨size, hboot, hmin, hmax, hsize⟩⟩

/-- The draws of the reset state: every register 0, and no RAM byte listed (log entries 2 and 3). -/
def Start.zeros : Start :=
  { a := 0, f := 0, b := 0, c := 0, d := 0, e := 0, h := 0, l := 0, sp := 0, pc := 0, ie := 0, bootOff := false,
    extRam := [], vram := [], wram := [], oam := [], hram := [], ppu := Ppu.powerOn }

/-- With zeros in both ROMs and the full ROM window, the launch from zeros at power-on is the reset state. -/
theorem launched_zeros_eq_reset (hlen : rom.length = Config.resetRomSize)
    (hboot : ∀ v ∈ bootRom, v = 0#8) (hrom : ∀ v ∈ rom, v = 0#8) :
    launched bootRom rom 0 Params.default (Start.powerOn Start.zeros) = State.reset := by
  rw [launched, Memory.ofBytes_of_zeros _ hboot, Memory.ofBytes_of_zeros _ hrom, hlen]
  rfl

end

/-! ### The statements -/

/-- Settles O53: the stores and ROMs of the reset state are empty, and its ROM_SIZE and PPU are in range. -/
theorem resetMeetsTheInvariant : Obligations.ResetMeetsTheInvariant where
  stores := by decide
  launch := by decide
  ppu := by decide

/-- Settles O54: a launch with zeros meets the premises with no external RAM, and its stores list no byte. -/
theorem resetIsPowerOn : Obligations.ResetIsPowerOn := by
  refine ⟨rfl, rfl, rfl, rfl, fun bootRom rom drawn hbootLen hromLen hzero hdrawn => ?_⟩
  obtain ⟨hboot, hrom⟩ := List.forall_mem_append.mp hzero
  have hheader : rom.getD 0x149 0#8 = 0#8 := by
    rw [List.getD_eq_getElem _ _ (by omega)]
    exact hrom _ (List.getElem_mem _)
  have hadm : LaunchAdmitted bootRom rom 0 :=
    ⟨hbootLen, by rw [hromLen]; decide, by rw [hromLen]; decide, by rw [hheader]; rfl⟩
  rw [hadm.launch_eq, hdrawn]
  exact congrArg Except.ok (launched_zeros_eq_reset hromLen hboot hrom)

/-- Settles O55: an admitted launch gives the launched machine, whose stores are filled within their sizes. -/
theorem launchPremises : Obligations.LaunchPremises := by
  refine fun bootRom rom p st => ⟨?_, fun s hppu h => ?_⟩
  · rw [← exists_launchAdmitted_iff]
    constructor
    · rintro ⟨s, h⟩
      obtain ⟨size, hadm, -⟩ := launch_eq_ok_iff.mp h
      exact ⟨size, hadm⟩
    · rintro ⟨size, hadm⟩
      exact ⟨_, hadm.launch_eq p st⟩
  · obtain ⟨size, hadm, rfl⟩ := launch_eq_ok_iff.mp h
    exact hadm.inv p hppu

/-- Settles O56: each field of the launched machine is the drawn one, and each store reads as the bytes it was filled
with. -/
theorem powerOnLaunch : Obligations.PowerOnLaunch := by
  intro bootRom rom p drawn s h
  obtain ⟨size, hadm, rfl⟩ := launch_eq_ok_iff.mp h
  exact ⟨⟨rfl, rfl, rfl, rfl⟩, ⟨rfl, rfl, rfl, rfl, rfl, rfl, rfl, rfl, rfl, Flags.byte_ofByte drawn.f⟩,
    fun _ hn => Memory.read_ofBytes (.inl hn), ⟨rfl, fun _ => Memory.read_ofBytes (.inr le_rfl)⟩, hadm.ramSize.symm,
    fun _ hn => Memory.read_ofBytes (.inl hn), fun _ hn => Memory.read_ofBytes (.inl hn),
    fun _ hn => Memory.read_ofBytes (.inl hn), fun _ hn => Memory.read_ofBytes (.inl hn),
    fun _ hn => Memory.read_ofBytes (.inl hn)⟩

end Sys2Proof.Machine
